-- ==== Sys2Proof/Word.lean ====
section
/-! DEFINITION. The word types of the GS-610: what crosses a port or wraps is a bit vector. -/

namespace Sys2Proof

/-- One byte of a frame (R155, R159). -/
abbrev Byte := BitVec 8

/-- A 16-bit quantity handled as bits: the CRC register, a zone mask, a subscription mask. -/
abbrev Word16 := BitVec 16

/-- A count or sequence number "described as 32-bit": it wraps from 4,294,967,295 to 0 (00_scope.md, R84, R90, R98, R118). -/
abbrev Count32 := BitVec 32

/-- The refund amount of an interval, which wraps at 2^48 (R84). -/
abbrev Amount48 := BitVec 48

end Sys2Proof
end

