-- ==== Sys2Proof/Config.lean ====
section
/-! DEFINITION. The constants the spec fixes for the one machine it describes. The spec leaves no value of any command's
result open, so there is no free value here. -/

namespace Sys2Proof.Config

/-- Number of pages of the pass store (R10). -/
def pageCount : Nat := 2048
/-- Most records on a page, and most staged entries (R10, R122). -/
def pageRecords : Nat := 32
/-- Most entries of a lane's in-flight list (R59, R63). -/
def inFlightMax : Nat := 2
/-- Most entries of the deferred list (R24). -/
def deferredMax : Nat := 8
/-- Most records of the interval log (R90). -/
def logMax : Nat := 96
/-- Most records of the refund journal (R118). -/
def journalMax : Nat := 512
/-- Journal count from which JOURNAL_HIGH is posted (R119). -/
def journalHigh : Nat := 448
/-- Response positions of a port (R157). -/
def positionsMax : Nat := 2
/-- Longest request body (R155). -/
def requestBodyMax : Nat := 240
/-- Notices one FETCH NOTICES removes at most (R169). -/
def fetchMax : Nat := 8
/-- Staged entries one STAGING READ carries at most (R127). -/
def stagingReadMax : Nat := 4
/-- Journal records one JOURNAL READ carries at most (R120). -/
def journalReadMax : Nat := 4
/-- Log records one LOG READ carries at most (R96). -/
def logReadMax : Nat := 2
/-- Saturating repeat count of a notice, and count of rides today (R167, R8). -/
def repeatMax : Nat := 255

/-- Largest station time, 2^40 - 1 (R139, R140). -/
def timeMax : Nat := 2 ^ 40 - 1
/-- Milliseconds of a day (R150). -/
def dayMs : Nat := 86400000
/-- Milliseconds of a minute (R87, R150). -/
def minuteMs : Nat := 60000
/-- Largest operating day (R150). -/
def dayMax : Nat := 1023
/-- Offset up to which a reference is slewed (R143). -/
def slewRange : Int := 2000
/-- Largest trim, in either direction (R139). -/
def trimMax : Int := 250
/-- Least station time between references for a trim update (R145). -/
def trimSpan : Nat := 600000
/-- Elapsed milliseconds between two steps of slewing (R141). -/
def slewPeriod : Nat := 100
/-- Reference age at which LOCKED becomes FREE (R142). -/
def freeAge : Nat := 21600000
/-- Elapsed milliseconds between two writes of the last-known time (R152). -/
def lastKnownPeriod : Nat := 60000

/-- Rotation window (R74). -/
def rotationWindow : Nat := 3000
/-- Coincidence limit: a second edge sooner than this is implausible (R74). -/
def coincidence : Nat := 20
/-- Time a sensor stays high before its stuck addition (R80). -/
def stuckLimit : Nat := 20000
/-- Idle timer of the staging buffer (R130). -/
def idleTimer : Nat := 120000
/-- Longest wait of a due STATION RESTART (R177). -/
def restartWait : Nat := 1000

/-- Score added by an implausible event (R80). -/
def implausibleScore : Nat := 8
/-- Score added by a stuck episode (R80). -/
def stuckScore : Nat := 32
/-- Largest score (R80). -/
def scoreMax : Nat := 255
/-- Least score of the band SUSPECT (R81). -/
def suspectFrom : Nat := 96
/-- Least score of the band FAILED (R81). -/
def failedFrom : Nat := 192

/-- Subscription mask of every kind (R171). -/
def everyKind : Word16 := 0x03FF

/-- Family code (R175). -/
def familyCode : Nat := 0x1B
/-- Part code (R175). -/
def partCode : Nat := 0x0262
/-- Silicon revision code (R175). -/
def revisionCode : Nat := 0x01

end Sys2Proof.Config
end

