-- ==== Sys2Proof/Syntax.lean ====
section
/-! DEFINITION. The commands of the GS-610: one constructor of `Instr` per row of spec/opcode_table.json, with the names
their operands are written in. -/

namespace Sys2Proof

/-- A gate lane, 0 to 5 (R33). -/
abbrev LaneId := Fin 6
/-- A station port's number: 0 for SP0, 1 for SP1. -/
abbrev StationId := Fin 2
/-- A lift served from the station, 0 or 1 (R172). -/
abbrev LiftId := Fin 2

/-- A link port: LP0 to LP5 or SP0, SP1 (R154). -/
inductive Port where
  | lane (k : LaneId)
  | station (i : StationId)
  deriving DecidableEq, Repr

/-- The arm sensors of a lane: A on the entry side, B on the exit side (R73). -/
inductive ArmSensor where
  | a
  | b
  deriving DecidableEq, Repr

/-- The operating states of a lane (R56). -/
inductive LaneState where
  | shut
  | attended
  | self
  | observe
  deriving DecidableEq, Repr

/-- The causes of a lane's error indication (R60). The first-cause code NONE is `none` of `Option ErrorCause`. -/
inductive ErrorCause where
  | sensorFailed
  | linkReset
  deriving DecidableEq, Repr

/-- The bands of the sensor health score (R81). -/
inductive HealthBand where
  | sound
  | suspect
  | failed
  deriving DecidableEq, Repr

/-- The states of the timebase (R142). -/
inductive TimebaseStatus where
  | unset
  | locked
  | free
  deriving DecidableEq, Repr

/-- The outcomes a STAGING notice carries (R167). -/
inductive StagingOutcome where
  | committed
  | failed
  | abandoned
  deriving DecidableEq, Repr

/-- The flags of an interval log record, and of an interval held open (R89, R91). -/
structure IntervalFlags where
  extended : Bool := false
  interrupted : Bool := false
  stepped : Bool := false
  cut : Bool := false
  deriving DecidableEq, Repr

/-- What a block posts: the ten notice kinds, each with its subject and its detail (R167, R168). -/
inductive NoticeDetail where
  | laneState (k : LaneId) (current requested : LaneState) (firstCause : Option ErrorCause) (flag : Bool)
      (causeSensor causeLink : Bool)
  | sensorHealth (k : LaneId) (band : HealthBand) (score : Nat)
  | tailgate (k : LaneId) (time : Nat)
  | intervalClosed (seq : Count32) (flags : IntervalFlags)
  | dayRollover (day : Nat)
  | timebase (status : TimebaseStatus) (stepMark : Bool)
  | journalHigh (count : Nat)
  | staging (page : Nat) (outcome : StagingOutcome)
  | refundCommitted (seq : Count32) (serial : Nat) (amount : Nat)
  | logFull (count : Nat)
  deriving DecidableEq, Repr

/-- The count events of R85. Those of a lane unit carry the estimated mark of R79. -/
inductive CountEvent where
  | passed (k : LaneId) (estimated : Bool)
  /-- the free event of a completed FREE entry with the passed event it is always sent together with (R85): one thing sent,
  which the count unit takes whole (log entry 6, DEDUCED) -/
  | passedFree (k : LaneId) (estimated : Bool)
  | balk (k : LaneId) (estimated : Bool)
  | tailgate (k : LaneId) (estimated : Bool)
  | reverse (k : LaneId) (estimated : Bool)
  | refused (k : LaneId)
  | refund (amount : Nat)
  deriving DecidableEq, Repr

/-- The ways a request frame is not sound (R155). -/
inductive FrameFault where
  /-- the first byte that is not fill is not the start mark -/
  | badStart
  /-- the length byte is above 240 -/
  | oversize
  /-- the select period ends within the frame -/
  | truncated
  /-- the CRC received differs from the CRC computed -/
  | badCrc
  deriving DecidableEq, Repr

/-- How the page write of a PAGE COMMIT ends (R26, R133). -/
inductive WriteResult where
  | success
  | verifyFailure
  deriving DecidableEq, Repr

/-- The order in which a PORT RESET and the engine's work on a request of that port are met (R27, R47, R162). A block takes the
reset as an event of its own, before or after its own work; the order is no part of the frame (log entry 40, DESIGN CHOICE). -/
inductive ResetOrder where
  /-- the engine has not taken the port's request when the withdrawal reaches it -/
  | withdrawalFirst
  /-- the engine takes the port's request just before the withdrawal reaches it, and the reset reaches the lane unit or the
  staging buffer before that service does -/
  | serviceFirst
  deriving DecidableEq, Repr

/-- A PORT RESET besides its port and tag: the body its frame carries, and the order in which the blocks take it. -/
structure ResetRequest where
  body : List Byte
  order : ResetOrder
  deriving DecidableEq, Repr

/-- The commands, one constructor per row of spec/opcode_table.json, in the table's order. A request row carries the
port it arrives on, its tag and its body as the raw bytes of the frame, so that every wrong form is a command too. -/
inductive Instr where
  | admitPass (p : Port) (tag : Byte) (body : List Byte)
  | laneStatus (p : Port) (tag : Byte) (body : List Byte)
  | portReset (p : Port) (tag : Byte) (req : ResetRequest)
  | laneState (p : Port) (tag : Byte) (body : List Byte)
  | laneAck (p : Port) (tag : Byte) (body : List Byte)
  | releaseGo (p : Port) (tag : Byte) (body : List Byte)
  | releaseDeny (p : Port) (tag : Byte) (body : List Byte)
  | releaseFree (p : Port) (tag : Byte) (body : List Byte)
  | passRead (p : Port) (tag : Byte) (body : List Byte)
  | block (p : Port) (tag : Byte) (body : List Byte)
  | unblock (p : Port) (tag : Byte) (body : List Byte)
  | pageOpen (p : Port) (tag : Byte) (body : List Byte)
  | recordPut (p : Port) (tag : Byte) (body : List Byte)
  | recordDrop (p : Port) (tag : Byte) (body : List Byte)
  | stagingRead (p : Port) (tag : Byte) (body : List Byte)
  | pageCommit (p : Port) (tag : Byte) (body : List Byte)
  | pageAbandon (p : Port) (tag : Byte) (body : List Byte)
  | tariffPut (p : Port) (tag : Byte) (body : List Byte)
  | tariffRead (p : Port) (tag : Byte) (body : List Byte)
  | tariffLock (p : Port) (tag : Byte) (body : List Byte)
  | refundQuote (p : Port) (tag : Byte) (body : List Byte)
  | refundCommit (p : Port) (tag : Byte) (body : List Byte)
  | journalRead (p : Port) (tag : Byte) (body : List Byte)
  | journalRelease (p : Port) (tag : Byte) (body : List Byte)
  | logRead (p : Port) (tag : Byte) (body : List Byte)
  | logRelease (p : Port) (tag : Byte) (body : List Byte)
  | timeReference (p : Port) (tag : Byte) (body : List Byte)
  | readTime (p : Port) (tag : Byte) (body : List Byte)
  | configure (p : Port) (tag : Byte) (body : List Byte)
  | readProfile (p : Port) (tag : Byte) (body : List Byte)
  | subscribe (p : Port) (tag : Byte) (body : List Byte)
  | fetchNotices (p : Port) (tag : Byte) (body : List Byte)
  | stationRestart (p : Port) (tag : Byte) (body : List Byte)
  | unknownKind (p : Port) (kind tag : Byte)
  | frameError (p : Port) (cause : FrameFault)
  | selectPeriodStart (p : Port)
  | responseClockedOut (p : Port)
  | selectPeriodEnd (p : Port)
  | engineTakeWork
  | writeCompletion (result : WriteResult)
  | idleTimerEnd
  | passTimeout (k : LaneId)
  | releasePulseEnd (k : LaneId)
  | sensorRisingEdge (k : LaneId) (x : ArmSensor)
  | sensorFallingEdge (k : LaneId) (x : ArmSensor)
  | rotationWindowEnd (k : LaneId)
  | stuckLimit (k : LaneId) (x : ArmSensor)
  | slewTick
  | referenceAgeExpiry
  | lastKnownWrite
  | boundaryEvent
  | dayChange
  | countEvent (ev : CountEvent)
  | noticePost (d : NoticeDetail)
  | deviceReset
  | startupComplete
  | restartDueExpiry
  | runningOfStationTime
  deriving DecidableEq, Repr

/-- The request kinds of R164. The three RELEASE rows of the table are one kind. -/
inductive Kind where
  | admitPass
  | laneStatus
  | portReset
  | laneState
  | laneAck
  | release
  | passRead
  | block
  | unblock
  | pageOpen
  | recordPut
  | recordDrop
  | stagingRead
  | pageCommit
  | pageAbandon
  | tariffPut
  | tariffRead
  | tariffLock
  | refundQuote
  | refundCommit
  | journalRead
  | journalRelease
  | logRead
  | logRelease
  | timeReference
  | readTime
  | configure
  | readProfile
  | subscribe
  | fetchNotices
  | stationRestart
  deriving DecidableEq, Repr

end Sys2Proof
end

