-- ==== Sys2Proof/Machine/State.lean ====
section
/-! DEFINITION. The state of the GS-610 as plain data, block by block, and the state right after the first device reset of
a device as it leaves manufacture. -/

namespace Sys2Proof

/-- The flags of a record closed by a start-up (R95). -/
def IntervalFlags.ofStartup : IntervalFlags := { interrupted := true }

end Sys2Proof

namespace Sys2Proof.Machine

/-! ## Pass records (chapter 1) -/

/-- An hour window: the minutes of day at which a pass may ride, the end excluded (R3). -/
structure HourWindow where
  fromMinute : Nat
  toMinute : Nat
  deriving DecidableEq, Repr

/-- The entitlement part of a pass record (R2). -/
structure Entitlement where
  serial : Nat
  classNo : Nat
  firstDay : Nat
  window : Nat
  rideDays : Nat
  paid : Nat
  blocked : Bool
  zones : Option Word16
  hours : Option HourWindow
  deriving DecidableEq, Repr

/-- The state of a used day (R4). -/
inductive DayState where
  | confirmed
  | provisional (holders : Nat)
  deriving DecidableEq, Repr

/-- One entry of the used-day list (R4). -/
structure UsedDay where
  day : Nat
  state : DayState
  deriving DecidableEq, Repr

/-- A passback stamp (R7). -/
structure Stamp where
  time : Nat
  lift : LiftId
  deriving DecidableEq, Repr

/-- Rides today (R8). -/
structure RidesToday where
  day : Nat
  count : Nat
  deriving DecidableEq, Repr

/-- The usage part of a pass record (R1, R4, R6, R7, R8). -/
structure Usage where
  used : List UsedDay := []
  refundedDays : Nat := 0
  refundedTotal : Nat := 0
  stamp : Option Stamp := none
  rides : Option RidesToday := none
  deriving DecidableEq, Repr

/-- A pass record (R1). -/
structure PassRecord where
  ent : Entitlement
  usage : Usage
  deriving DecidableEq, Repr

/-! ## Staging buffer (chapter 7) -/

/-- The mark of a staged entry (R122). -/
inductive StagedMark where
  | copied
  | replaced
  | new
  deriving DecidableEq, Repr

/-- A staged entry: an entitlement part with its mark (R122). -/
structure Staged where
  ent : Entitlement
  mark : StagedMark
  deriving DecidableEq, Repr

/-- What the staging buffer holds while it is not EMPTY (R122). -/
structure Buffer where
  page : Nat
  owner : StationId
  entries : List Staged
  deriving DecidableEq, Repr

/-- A page write under way: the page built when it began (R133), and whether a PORT RESET of the owner has disowned the
commit's response (R27, R137, R162). -/
structure PageWrite where
  image : List PassRecord
  disowned : Bool
  deriving DecidableEq, Repr

/-- The staging buffer (R122). In OPEN it holds the elapsed-time mark at which its idle timer last started (R130). -/
inductive Staging where
  | empty
  | opened (b : Buffer) (timerMark : Nat)
  | committing (b : Buffer) (w : PageWrite)
  deriving DecidableEq, Repr

/-! ## Refund unit (chapter 6) -/

/-- One class of the tariff table; `prices[i]` is P(i + 1) (R100). -/
structure TariffClass where
  present : Bool
  prices : Vector Nat 14
  feeMin : Nat
  feePermille : Nat
  step : Nat
  capPermille : Nat
  lapsed : Bool
  deriving DecidableEq, Repr

/-- A record of the refund journal (R117). -/
structure JournalRecord where
  seq : Count32
  serial : Nat
  classNo : Nat
  days : Nat
  amount : Nat
  day : Nat
  time : Nat
  port : Port
  deriving DecidableEq, Repr

/-- The refund unit: tariff table, tariff lock and refund journal (R100, R103, R117). -/
structure RefundUnit where
  tariff : Vector TariffClass 64
  locked : Bool
  journal : List JournalRecord
  nextSeq : Count32
  deriving DecidableEq, Repr

/-! ## Lane units (chapters 3 and 4) -/

/-- The contents of a PASS entry that its task carries (R21, R44). -/
structure Admission where
  serial : Nat
  stampSet : Stamp
  heldDay : Option Nat
  priorStamp : Option Stamp
  priorRides : Option RidesToday
  deriving DecidableEq, Repr

/-- The kind of an in-flight entry, with a PASS entry's contents (R63). -/
inductive EntryKind where
  | pass (a : Admission)
  | free
  deriving DecidableEq, Repr

/-- The release of an entry: its elapsed-time mark, and the pass timeout and pulse length in force at it (R63, R68, R72). -/
structure Release where
  mark : Nat
  timeout : Nat
  pulse : Nat
  deriving DecidableEq, Repr

/-- An in-flight entry (R63). It is RELEASED when it has a release, WAITING when it has none. -/
structure Entry where
  kind : EntryKind
  admissionTime : Nat
  admissionMark : Nat
  admissionTimeout : Nat
  release : Option Release
  deriving DecidableEq, Repr

/-- The rotation sequencer; a seen-state holds the elapsed-time mark of the edge that started its window (R74). -/
inductive Sequencer where
  | idle
  | aSeen (mark : Nat)
  | bSeen (mark : Nat)
  deriving DecidableEq, Repr

/-- A stuck episode: its start and whether it has added to the score (R80). -/
structure StuckEpisode where
  mark : Nat
  counted : Bool
  deriving DecidableEq, Repr

/-- One arm sensor: its input level, the station times of its last edges, and its stuck episode (R73, R80). -/
structure Sensor where
  level : Bool
  lastRise : Nat
  lastFall : Nat
  stuck : Option StuckEpisode
  deriving DecidableEq, Repr

/-- A lane unit (R56, R63, R71, R73, R74, R80). The first-cause code NONE is `none`. -/
structure Lane where
  current : LaneState
  requested : LaneState
  errorFlag : Bool
  firstCause : Option ErrorCause
  causeSensor : Bool
  causeLink : Bool
  inflight : List Entry
  output : Bool
  sequencer : Sequencer
  score : Nat
  sensorA : Sensor
  sensorB : Sensor
  deriving DecidableEq, Repr

/-! ## Table engine (chapter 2) -/

/-- The two kinds of task (R21). -/
inductive TaskKind where
  | confirm
  | void
  deriving DecidableEq, Repr

/-- A task of a lane unit (R21), with the mark of one left in place for the busy page (R24). -/
structure Task where
  kind : TaskKind
  lane : LaneId
  pass : Admission
  left : Bool
  deriving DecidableEq, Repr

/-- An entry of the pending set (R20), with the mark of one left in place for the busy page (R24). -/
structure Request where
  port : Port
  kind : Kind
  tag : Byte
  body : List Byte
  left : Bool
  deriving DecidableEq, Repr

/-- An entry of the deferred list (R25). -/
inductive Work where
  | request (r : Request)
  | task (t : Task)
  deriving DecidableEq, Repr

/-- The table engine's holdings. The pending set keeps no arrival order: it is held in the cyclic order of the ports. -/
structure Engine where
  pendingSet : List Request
  tasks : List Task
  deferred : List Work
  pointer : Port
  deriving DecidableEq, Repr

/-! ## Count unit (chapter 5) -/

/-- The counts of one lane in an interval (R84). -/
structure LaneCounts where
  passed : Count32 := 0
  free : Count32 := 0
  balked : Count32 := 0
  tailgate : Count32 := 0
  reverse : Count32 := 0
  refused : Count32 := 0
  estimated : Bool := false
  deriving DecidableEq, Repr

/-- The open interval (R84). -/
structure Interval where
  start : Nat
  nextBoundary : Nat
  lanes : Vector LaneCounts 6
  refunds : Count32
  refundAmount : Amount48
  gathered : IntervalFlags
  deriving DecidableEq, Repr

/-- A record of the interval log (R89). -/
structure LogRecord where
  seq : Count32
  day : Nat
  startMinute : Nat
  length : Nat
  flags : IntervalFlags
  lanes : Vector LaneCounts 6
  refunds : Count32
  refundAmount : Amount48
  deriving DecidableEq, Repr

/-- The count unit (R84, R90, R98). -/
structure CountUnit where
  interval : Interval
  log : List LogRecord
  nextSeq : Count32
  lifetime : Vector Count32 6
  released : Vector Count32 6
  deriving DecidableEq, Repr

/-! ## Timebase (chapter 8) -/

/-- The timebase (R139), with the elapsed-time marks of its next slewing (R141) and next last-known write (R152), and the
rises of station time that slewing has still to withhold (R141, log entry 13, DEDUCED). -/
structure Timebase where
  time : Nat
  fraction : Nat
  trim : Int
  correction : Int
  slewDue : Nat
  withheld : Nat
  status : TimebaseStatus
  refMark : Option Nat
  refAge : Option Nat
  currentDay : Nat
  lastKnown : Nat
  lastKnownDue : Nat
  deriving DecidableEq, Repr

/-! ## Notice unit (chapter 10) -/

/-- A notice in a queue (R167); its kind and subject are those of its detail. -/
structure Notice where
  detail : NoticeDetail
  first : Nat
  latest : Nat
  count : Nat
  deriving DecidableEq, Repr

/-- The notice unit's state for one station port (R168, R170). -/
structure NoticePort where
  queue : List Notice
  mask : Word16
  deriving DecidableEq, Repr

/-! ## Link ports (chapter 9) -/

/-- The outcome codes of R165. -/
inductive Code where
  | ok
  | busy
  | frameError
  | unknownKind
  | notPermitted
  | badArgument
  | notReady
  | admitted
  | unknownPass
  | blocked
  | notYetValid
  | expired
  | zone
  | hours
  | passback
  | noDaysLeft
  | refunded
  | laneShut
  | wait
  | invalidTransition
  | timeUnset
  | errorPending
  | laneBusy
  | nothingPending
  | stagingHeld
  | stagingEmpty
  | committing
  | wrongPage
  | pageFull
  | notFound
  | conflict
  | writeFailed
  | notLocked
  | locked
  | noTariff
  | nothingRefundable
  | zeroRefund
  | stale
  | journalFull
  | timeBackward
  | lanesOpen
  deriving DecidableEq, Repr

/-- A response frame's fields (R159). -/
structure Response where
  kind : Byte
  tag : Byte
  code : Code
  body : List Byte
  deriving DecidableEq, Repr

/-- A response position that is taken: reserved for the pending request, reserved for a BUSY response, or ready (R157). -/
inductive Position where
  | reserved (kind tag : Byte)
  | busy (kind tag : Byte)
  | ready (r : Response)
  deriving DecidableEq, Repr

/-- Where a port stands in the data-in of a select period (R154, R155). -/
inductive Line where
  /-- select is inactive: clock edges are ignored -/
  | idle
  /-- the whole bytes of the period so far, and the bits of the byte begun -/
  | collecting (bytes : List Byte) (bits : List Bool)
  /-- the period's frame has been taken or discarded: the rest of its data-in is ignored -/
  | ignoring
  /-- a device reset has ended the period for the port while select stays active: the bits, once the device is READY, of the
  byte begun, until a start mark begins a new assembly (R163) -/
  | spanned (bits : List Bool)
  deriving DecidableEq, Repr

/-- A link port (R154, R157, R160). `sent` counts the bits of the response being sent that have been clocked out, and
`restartSent` says that a STATION RESTART's OK response was clocked out whole in the select period under way (R177). -/
structure PortState where
  positions : List Position
  selected : Bool
  sending : Bool
  sent : Nat
  restartSent : Bool
  line : Line
  deriving DecidableEq, Repr

/-! ## Station profile (chapter 11) -/

/-- The release modes (R71, R172). -/
inductive ReleaseMode where
  | timed
  | held
  deriving DecidableEq, Repr

/-- The arbitration policies (R23, R172). -/
inductive Policy where
  | roundRobin
  | lanesFirst
  | stationFirst
  deriving DecidableEq, Repr

/-- The station profile but for the trim, which the timebase holds (R172). -/
structure Profile where
  lanesEnabled : Nat
  liftOf : Vector LiftId 6
  zoneOf : Vector Nat 2
  passback : Vector Nat 2
  modeOf : Vector ReleaseMode 6
  pulse : Nat
  passTimeout : Nat
  intervalMinutes : Nat
  rollover : Nat
  policy : Policy
  stationId : Nat
  deriving DecidableEq, Repr

/-! ## The device -/

/-- The device states of R176. -/
inductive Phase where
  | starting
  | ready
  deriving DecidableEq, Repr

/-- The state of the whole device, with the queue of commands that wait. -/
structure State where
  phase : Phase
  /-- milliseconds of elapsed time since the last device reset (log entry 9, DEDUCED) -/
  elapsed : Nat
  /-- elapsed-time mark at which a due STATION RESTART takes effect at the latest (R177) -/
  restartDue : Option Nat
  profile : Profile
  /-- every pass record, in ascending serial order; the page of a record is its serial mod 2048 (R10) -/
  store : List PassRecord
  staging : Staging
  refund : RefundUnit
  engine : Engine
  lanes : Vector Lane 6
  count : CountUnit
  timebase : Timebase
  notices : Vector NoticePort 2
  lanePorts : Vector PortState 6
  stationPorts : Vector PortState 2
  /-- count events sent and not yet taken by the count unit (R86) -/
  countsInFlight : List CountEvent
  /-- notices posted and not yet taken by the notice unit (R168) -/
  postsInFlight : List NoticeDetail
  /-- commands that wait, first in, first out (log entry 1, DESIGN CHOICE) -/
  pending : List Instr
  deriving DecidableEq, Repr

/-- Why the machine stops. No command of the GS-610 stops it. -/
inductive Fault where
  /-- Raised by no command: every request is answered or discarded (R157, R165). The constructor only keeps the type from
  being empty. Safe. -/
  | stopped
  deriving DecidableEq, Repr

/-- Why a command is turned away. -/
inductive Refusal where
  /-- Raised by `exec` for a command that has no meaning yet; no arm does. Safe. -/
  | notModelled (mnemonic : String)
  deriving DecidableEq, Repr

/-! ## Values at reset -/

/-- The profile as a GS-610 leaves manufacture (R172). -/
def Profile.default : Profile where
  lanesEnabled := 6
  liftOf := Vector.replicate 6 0
  zoneOf := Vector.replicate 2 0
  passback := Vector.replicate 2 120
  modeOf := Vector.replicate 6 .held
  pulse := 1500
  passTimeout := 8
  intervalMinutes := 15
  rollover := 240
  policy := .roundRobin
  stationId := 0

/-- A class as it leaves manufacture (R100). -/
def TariffClass.default : TariffClass where
  present := false
  prices := Vector.replicate 14 0
  feeMin := 0
  feePermille := 0
  step := 1
  capPermille := 0
  lapsed := false

/-- The refund unit as it leaves manufacture (R100, R103, R117). -/
def RefundUnit.default : RefundUnit where
  tariff := Vector.replicate 64 TariffClass.default
  locked := false
  journal := []
  nextSeq := 0

/-- The table engine after a device reset (R28). -/
def Engine.reset : Engine where
  pendingSet := []
  tasks := []
  deferred := []
  pointer := .station 1

/-- A sensor after a device reset: timestamps 0 and no stuck timer (R83). Its input level is the pin's own. -/
def Sensor.reset (level : Bool) : Sensor where
  level := level
  lastRise := 0
  lastFall := 0
  stuck := none

/-- A lane unit after a device reset; the levels of its sensor inputs are given from outside (R83). -/
def Lane.reset (levelA levelB : Bool) : Lane where
  current := .shut
  requested := .shut
  errorFlag := false
  firstCause := none
  causeSensor := false
  causeLink := false
  inflight := []
  output := false
  sequencer := .idle
  score := 0
  sensorA := Sensor.reset levelA
  sensorB := Sensor.reset levelB

/-- An interval with every count 0 and no flags (R84). -/
def Interval.fresh (start nextBoundary : Nat) : Interval where
  start := start
  nextBoundary := nextBoundary
  lanes := Vector.replicate 6 {}
  refunds := 0
  refundAmount := 0
  gathered := {}

/-- The count unit as it leaves manufacture (R84, R90). -/
def CountUnit.default : CountUnit where
  interval := Interval.fresh 0 0
  log := []
  nextSeq := 0
  lifetime := Vector.replicate 6 0
  released := Vector.replicate 6 0

/-- The timebase after a device reset, from the three items it keeps (R153). -/
def Timebase.reset (trim : Int) (currentDay lastKnown : Nat) : Timebase where
  time := lastKnown
  fraction := 0
  trim := trim
  correction := 0
  slewDue := 0
  withheld := 0
  status := .unset
  refMark := none
  refAge := none
  currentDay := currentDay
  lastKnown := lastKnown
  lastKnownDue := Config.lastKnownPeriod

/-- A station port's notice queue and mask after a device reset (R171). -/
def NoticePort.reset : NoticePort where
  queue := []
  mask := Config.everyKind

/-- A link port after a device reset outside a select period (R163). -/
def PortState.reset : PortState where
  positions := []
  selected := false
  sending := false
  sent := 0
  restartSent := false
  line := .idle

/-- The device as it leaves manufacture, before its first device reset: the non-volatile items at the values of
manufacture, the sensor inputs low (log entry 5, DESIGN CHOICE) and the volatile items at their reset values (log entry 3, DESIGN CHOICE). -/
def State.factory : State where
  phase := .starting
  elapsed := 0
  restartDue := none
  profile := Profile.default
  store := []
  staging := .empty
  refund := RefundUnit.default
  engine := Engine.reset
  lanes := Vector.replicate 6 (Lane.reset false false)
  count := CountUnit.default
  timebase := Timebase.reset 0 0 0
  notices := Vector.replicate 2 NoticePort.reset
  lanePorts := Vector.replicate 6 PortState.reset
  stationPorts := Vector.replicate 2 PortState.reset
  countsInFlight := []
  postsInFlight := []
  pending := []

/-- The record with which the first start-up closes the interval of manufacture (R84, R89, R95). -/
def LogRecord.first : LogRecord where
  seq := 0
  day := 0
  startMinute := 0
  length := 0
  flags := IntervalFlags.ofStartup
  lanes := Vector.replicate 6 {}
  refunds := 0
  refundAmount := 0

/-- The machine right after reset: the first device reset of a device as it leaves manufacture. It is STARTING, and the
start-up has closed the interval of manufacture with INTERRUPTED, as R84 and R95 state (log entry 3, DESIGN CHOICE). -/
def State.reset : State :=
  { State.factory with
    count :=
      { CountUnit.default with
        interval := Interval.fresh 0 900000
        log := [LogRecord.first]
        nextSeq := 1 }
    postsInFlight := [.intervalClosed 0 IntervalFlags.ofStartup] }

end Sys2Proof.Machine
end

