-- ==== Sys2Proof/Machine/Calendar.lean ====
section
/-! DEFINITION. What is derived from station time: operating day, minute of day and aligned boundaries. -/

namespace Sys2Proof.Machine

/-- The operating day of an instant under a rollover minute: floor((t - rollover × 60,000) / 86,400,000), clamped to
0 to 1023 (R150). -/
def operatingDay (rollover t : Nat) : Nat :=
  if t < rollover * Config.minuteMs then 0
  else min Config.dayMax ((t - rollover * Config.minuteMs) / Config.dayMs)

/-- The minute of day of an instant, 0 to 1439 (R150). -/
def minuteOfDay (t : Nat) : Nat := t % Config.dayMs / Config.minuteMs

/-- The season's first aligned boundary: the rollover's place within one interval (R87). -/
def firstBoundary (intervalMinutes rollover : Nat) : Nat :=
  rollover * Config.minuteMs % (intervalMinutes * Config.minuteMs)

/-- The aligned boundary at or before an instant; 0 where the instant lies before the first of the season (R87). -/
def boundaryAtOrBefore (intervalMinutes rollover x : Nat) : Nat :=
  let o := firstBoundary intervalMinutes rollover
  let len := intervalMinutes * Config.minuteMs
  if x < o then 0 else o + (x - o) / len * len

/-- The first aligned boundary after an instant (R87). -/
def boundaryAfter (intervalMinutes rollover x : Nat) : Nat :=
  let o := firstBoundary intervalMinutes rollover
  let len := intervalMinutes * Config.minuteMs
  if x < o then o else o + ((x - o) / len + 1) * len

/-- The next boundary of an interval that opens at `start`: one interval length later, but for an interval that starts at
the substitute 0, whose next boundary is the first aligned one after 0 (R87). -/
def nextBoundaryFrom (intervalMinutes rollover start : Nat) : Nat :=
  if start = 0 ∧ firstBoundary intervalMinutes rollover ≠ 0 then boundaryAfter intervalMinutes rollover 0
  else start + intervalMinutes * Config.minuteMs

/-- The operating day derived from station time under the rollover minute in force (R150). -/
def State.derivedDay (s : State) : Nat := operatingDay s.profile.rollover s.timebase.time

/-- The operating day every block reads: the derived day, and in UNSET the stored current day (R150). -/
def State.opDay (s : State) : Nat :=
  match s.timebase.status with
  | .unset => s.timebase.currentDay
  | .locked => s.derivedDay
  | .free => s.derivedDay

/-- The minute of day every block reads (R150). -/
def State.minute (s : State) : Nat := minuteOfDay s.timebase.time

end Sys2Proof.Machine
end

