-- ==== Sys2Proof/Machine/Bytes.lean ====
section
/-! DEFINITION. Byte order and the CRC of frames: multi-byte quantities cross a port most significant byte first
(00_scope.md "Byte order", R166), and a frame carries the CRC-16 of R156. -/

namespace Sys2Proof

/-- The `n` bytes of `v`, most significant first; `v` is taken mod 256^n (R166). -/
def beBytes : Nat → Nat → List Byte
  | 0, _ => []
  | n + 1, v => BitVec.ofNat 8 (v / 256 ^ n) :: beBytes n v

/-- The `n` bytes of a signed field in two's complement (R166). -/
def beSigned (n : Nat) (v : Int) : List Byte :=
  beBytes n (v % (256 ^ n : Nat)).toNat

/-- The number a run of bytes spells, most significant byte first (R166). -/
def ofBytes (bs : List Byte) : Nat :=
  bs.foldl (fun acc b => acc * 256 + b.toNat) 0

/-- The number two bytes spell in two's complement (R166, R173: the trim of a CONFIGURE). -/
def ofSigned16 (bs : List Byte) : Int :=
  let v := ofBytes bs
  if v < 32768 then (v : Int) else (v : Int) - 65536

/-- `n` bytes 00h: a field for which a rule names no content (R166). -/
def zeros (n : Nat) : List Byte := List.replicate n 0

/-- A yes-or-no field sent as a byte of its own (R166). -/
def boolByte (b : Bool) : List Byte := [if b then 1 else 0]

/-- The field of `len` bytes at offset `off` of a body. -/
def fieldAt (off len : Nat) (bs : List Byte) : Nat := ofBytes ((bs.drop off).take len)

/-- The bits of a byte in the order in which they cross a port, most significant first (R154). -/
def bitsOf (b : Byte) : List Bool := [7, 6, 5, 4, 3, 2, 1, 0].map b.getLsbD

/-- The byte that bits spell in that order (R154). -/
def byteOfBits (bits : List Bool) : Byte := BitVec.ofNat 8 (bits.foldl (fun v x => 2 * v + x.toNat) 0)

/-- One bit of the CRC: the register moves one place toward its most significant end; where the bit moved out differs
from the incoming bit, 1021h is exclusive-ORed in (R156). -/
def crcBit (r : Word16) (b : Bool) : Word16 :=
  if xor r.msb b then (r <<< 1) ^^^ 0x1021#16 else r <<< 1

/-- One byte of the CRC, most significant bit first (R156). -/
def crcByte (r : Word16) (b : Byte) : Word16 :=
  [7, 6, 5, 4, 3, 2, 1, 0].foldl (fun acc i => crcBit acc (b.getLsbD i)) r

/-- The CRC-16 of a run of bytes; the register starts at FFFFh (R156). -/
def crc16 (bs : List Byte) : Word16 := bs.foldl crcByte 0xFFFF#16

/-- The two CRC bytes of a frame, most significant first (R155, R156). -/
def crcBytes (bs : List Byte) : List Byte := beBytes 2 (crc16 bs).toNat

end Sys2Proof
end

