-- ==== Sys2Proof/Decode.lean ====
section
/-! DEFINITION. Kind codes, and request frames: which command the bytes clocked into a port within one select period are
(R154, R155, R164), and the frame of a request command. The rows of spec/opcode_table.json have no bits, so
`decodeTableWord` spells no command (log entry 2, DESIGN CHOICE). -/

namespace Sys2Proof

/-- The kind code of a request, echoed in its response (R164). -/
def Kind.code : Kind → Byte
  | .admitPass => 0x01
  | .laneStatus => 0x02
  | .portReset => 0x03
  | .laneState => 0x10
  | .laneAck => 0x11
  | .release => 0x12
  | .passRead => 0x20
  | .block => 0x21
  | .unblock => 0x22
  | .pageOpen => 0x30
  | .recordPut => 0x31
  | .recordDrop => 0x32
  | .stagingRead => 0x33
  | .pageCommit => 0x34
  | .pageAbandon => 0x35
  | .tariffPut => 0x40
  | .tariffRead => 0x41
  | .tariffLock => 0x42
  | .refundQuote => 0x48
  | .refundCommit => 0x49
  | .journalRead => 0x4A
  | .journalRelease => 0x4B
  | .logRead => 0x50
  | .logRelease => 0x51
  | .timeReference => 0x58
  | .readTime => 0x59
  | .configure => 0x60
  | .readProfile => 0x61
  | .subscribe => 0x68
  | .fetchNotices => 0x69
  | .stationRestart => 0x70

/-- Every kind of R164. -/
def Kind.all : List Kind :=
  [.admitPass, .laneStatus, .portReset, .laneState, .laneAck, .release, .passRead, .block, .unblock, .pageOpen, .recordPut,
   .recordDrop, .stagingRead, .pageCommit, .pageAbandon, .tariffPut, .tariffRead, .tariffLock, .refundQuote,
   .refundCommit, .journalRead, .journalRelease, .logRead, .logRelease, .timeReference, .readTime, .configure,
   .readProfile, .subscribe, .fetchNotices, .stationRestart]

/-- The kind a kind code names, if it is in the list of R164. -/
def Kind.ofCode (c : Byte) : Option Kind := Kind.all.find? (fun k => k.code == c)

/-- The actions of a RELEASE request (R164). -/
inductive ReleaseAction where
  | go
  | deny
  | free
  deriving DecidableEq, Repr

/-- The action byte of a RELEASE body (R164). -/
def ReleaseAction.code : ReleaseAction → Byte
  | .go => 0x00
  | .deny => 0x01
  | .free => 0x02

/-- The row of the table a RELEASE body belongs to: a body of no RELEASE form is counted to RELEASE_GO (log entry 26, DEDUCED). -/
def releaseRow : List Byte → ReleaseAction
  | [_, a] => if a = ReleaseAction.deny.code then .deny else if a = ReleaseAction.free.code then .free else .go
  | _ => .go

/-- The command of a sound request frame (R155, R164). The frame of a PORT RESET leaves open how the reset meets the engine's
work: it is read as the withdrawal coming first (R162, log entry 40, DESIGN CHOICE). -/
def commandOf (p : Port) (kind tag : Byte) (body : List Byte) : Instr :=
  match Kind.ofCode kind with
  | none => .unknownKind p kind tag
  | some .admitPass => .admitPass p tag body
  | some .laneStatus => .laneStatus p tag body
  | some .portReset => .portReset p tag { body := body, order := .withdrawalFirst }
  | some .laneState => .laneState p tag body
  | some .laneAck => .laneAck p tag body
  | some .release =>
    match releaseRow body with
    | .go => .releaseGo p tag body
    | .deny => .releaseDeny p tag body
    | .free => .releaseFree p tag body
  | some .passRead => .passRead p tag body
  | some .block => .block p tag body
  | some .unblock => .unblock p tag body
  | some .pageOpen => .pageOpen p tag body
  | some .recordPut => .recordPut p tag body
  | some .recordDrop => .recordDrop p tag body
  | some .stagingRead => .stagingRead p tag body
  | some .pageCommit => .pageCommit p tag body
  | some .pageAbandon => .pageAbandon p tag body
  | some .tariffPut => .tariffPut p tag body
  | some .tariffRead => .tariffRead p tag body
  | some .tariffLock => .tariffLock p tag body
  | some .refundQuote => .refundQuote p tag body
  | some .refundCommit => .refundCommit p tag body
  | some .journalRead => .journalRead p tag body
  | some .journalRelease => .journalRelease p tag body
  | some .logRead => .logRead p tag body
  | some .logRelease => .logRelease p tag body
  | some .timeReference => .timeReference p tag body
  | some .readTime => .readTime p tag body
  | some .configure => .configure p tag body
  | some .readProfile => .readProfile p tag body
  | some .subscribe => .subscribe p tag body
  | some .fetchNotices => .fetchNotices p tag body
  | some .stationRestart => .stationRestart p tag body

/-- Start mark of a request frame (R155). -/
def requestMark : Byte := 0xA5

/-- The command that follows the start mark: length, kind, tag, body and CRC (R155). -/
def afterStartMark (p : Port) : List Byte → Instr
  | [] => .frameError p .truncated
  | len :: rest =>
    if len.toNat > Config.requestBodyMax then .frameError p .oversize
    else if rest.length < 2 + len.toNat + 2 then .frameError p .truncated
    else
      let covered := rest.take (2 + len.toNat)
      if crcBytes (len :: covered) = (rest.drop (2 + len.toNat)).take 2 then
        commandOf p (covered.getD 0 0) (covered.getD 1 0) (covered.drop 2)
      else .frameError p .badCrc

/-- The command that the data-in bytes of one select period are: leading 00h bytes are fill, a period of fill alone is no
command, and bytes after the frame's end are ignored (R154, R155, log entry 31, DESIGN CHOICE). -/
def commandOfPeriod (p : Port) (bytes : List Byte) : Option Instr :=
  match bytes.dropWhile (fun b => b == 0) with
  | [] => none
  | b :: rest => some (if b = requestMark then afterStartMark p rest else .frameError p .badStart)

/-- The request frame of a kind code, tag and body (R155). -/
def requestFrame (kind tag : Byte) (body : List Byte) : List Byte :=
  let covered := BitVec.ofNat 8 body.length :: kind :: tag :: body
  requestMark :: covered ++ crcBytes covered

/-- The port and frame of a request command; `none` for a command that is not a request, and for a PORT RESET that meets the
engine's work in the order its frame does not say (log entry 40, DESIGN CHOICE). -/
def encode : Instr → Option (Port × List Byte)
  | .admitPass p tag body => some (p, requestFrame Kind.admitPass.code tag body)
  | .laneStatus p tag body => some (p, requestFrame Kind.laneStatus.code tag body)
  | .portReset p tag ⟨body, .withdrawalFirst⟩ => some (p, requestFrame Kind.portReset.code tag body)
  | .portReset _ _ ⟨_, .serviceFirst⟩ => none
  | .laneState p tag body => some (p, requestFrame Kind.laneState.code tag body)
  | .laneAck p tag body => some (p, requestFrame Kind.laneAck.code tag body)
  | .releaseGo p tag body => some (p, requestFrame Kind.release.code tag body)
  | .releaseDeny p tag body => some (p, requestFrame Kind.release.code tag body)
  | .releaseFree p tag body => some (p, requestFrame Kind.release.code tag body)
  | .passRead p tag body => some (p, requestFrame Kind.passRead.code tag body)
  | .block p tag body => some (p, requestFrame Kind.block.code tag body)
  | .unblock p tag body => some (p, requestFrame Kind.unblock.code tag body)
  | .pageOpen p tag body => some (p, requestFrame Kind.pageOpen.code tag body)
  | .recordPut p tag body => some (p, requestFrame Kind.recordPut.code tag body)
  | .recordDrop p tag body => some (p, requestFrame Kind.recordDrop.code tag body)
  | .stagingRead p tag body => some (p, requestFrame Kind.stagingRead.code tag body)
  | .pageCommit p tag body => some (p, requestFrame Kind.pageCommit.code tag body)
  | .pageAbandon p tag body => some (p, requestFrame Kind.pageAbandon.code tag body)
  | .tariffPut p tag body => some (p, requestFrame Kind.tariffPut.code tag body)
  | .tariffRead p tag body => some (p, requestFrame Kind.tariffRead.code tag body)
  | .tariffLock p tag body => some (p, requestFrame Kind.tariffLock.code tag body)
  | .refundQuote p tag body => some (p, requestFrame Kind.refundQuote.code tag body)
  | .refundCommit p tag body => some (p, requestFrame Kind.refundCommit.code tag body)
  | .journalRead p tag body => some (p, requestFrame Kind.journalRead.code tag body)
  | .journalRelease p tag body => some (p, requestFrame Kind.journalRelease.code tag body)
  | .logRead p tag body => some (p, requestFrame Kind.logRead.code tag body)
  | .logRelease p tag body => some (p, requestFrame Kind.logRelease.code tag body)
  | .timeReference p tag body => some (p, requestFrame Kind.timeReference.code tag body)
  | .readTime p tag body => some (p, requestFrame Kind.readTime.code tag body)
  | .configure p tag body => some (p, requestFrame Kind.configure.code tag body)
  | .readProfile p tag body => some (p, requestFrame Kind.readProfile.code tag body)
  | .subscribe p tag body => some (p, requestFrame Kind.subscribe.code tag body)
  | .fetchNotices p tag body => some (p, requestFrame Kind.fetchNotices.code tag body)
  | .stationRestart p tag body => some (p, requestFrame Kind.stationRestart.code tag body)
  | .unknownKind p kind tag => some (p, requestFrame kind tag [])
  | .frameError _ _ => none
  | .selectPeriodStart _ => none
  | .responseClockedOut _ => none
  | .selectPeriodEnd _ => none
  | .engineTakeWork => none
  | .writeCompletion _ => none
  | .idleTimerEnd => none
  | .passTimeout _ => none
  | .releasePulseEnd _ => none
  | .sensorRisingEdge _ _ => none
  | .sensorFallingEdge _ _ => none
  | .rotationWindowEnd _ => none
  | .stuckLimit _ _ => none
  | .slewTick => none
  | .referenceAgeExpiry => none
  | .lastKnownWrite => none
  | .boundaryEvent => none
  | .dayChange => none
  | .countEvent _ => none
  | .noticePost _ => none
  | .deviceReset => none
  | .startupComplete => none
  | .restartDueExpiry => none
  | .runningOfStationTime => none

/-- The command a word spells by the table's bits: no row of the table gives bits, so none (log entry 2, DESIGN CHOICE). -/
def decodeTableWord (_nbits _w : Nat) : Option Instr := none

end Sys2Proof
end

