-- ==== Sys2Proof/Machine/Operands.lean ====
section
/-! DEFINITION. The bodies of requests: the form each kind requires, and the operands it spells (R19, R33, R57, R61, R65,
R97, R101, R112, R113, R120, R124 to R128, R143, R164, R166, R170, R173). A body of another form has no operands. -/

namespace Sys2Proof.Machine

/-- A body that is exactly one number of `n` bytes. -/
def oneNumber (n : Nat) (body : List Byte) : Option Nat :=
  if body.length = n then some (ofBytes body) else none

/-- A body that is exactly one serial (R16, R17, R33, R126). -/
def oneSerial (body : List Byte) : Option Nat := oneNumber 4 body

/-- The serial a refusal of the form echoes: that of the first four bytes, when the body holds them (R48, R115, log
entry 16, DEDUCED). -/
def echoedSerial (body : List Byte) : Nat :=
  if 4 ≤ body.length then fieldAt 0 4 body else 0

/-- A body that is exactly one sequence number (R96, R97, R120). -/
def oneSequence (body : List Byte) : Option Count32 := (oneNumber 4 body).map (BitVec.ofNat 32)

/-- A lane number, 0 to 5 (R57, R61, R65, R82). -/
def laneOfByte (b : Byte) : Option LaneId := if h : b.toNat < 6 then some ⟨b.toNat, h⟩ else none

/-- A yes-or-no byte (R166); another value is of no form (log entry 17, DEDUCED). -/
def boolOfByte (b : Byte) : Option Bool :=
  if b = 0 then some false else if b = 1 then some true else none

/-- A target state (R166). -/
def laneStateOfByte (b : Byte) : Option LaneState :=
  if b = 0 then some .shut
  else if b = 1 then some .attended
  else if b = 2 then some .self
  else if b = 3 then some .observe
  else none

/-- The body of a LANE STATE request: lane number and target state, or none of the four states (R57). -/
def laneStateBody : List Byte → Option (LaneId × Option LaneState)
  | [k, st] => (laneOfByte k).map (fun k => (k, laneStateOfByte st))
  | _ => none

/-- The body of a LANE ACK request: a lane number (R61). -/
def laneBody : List Byte → Option LaneId
  | [k] => laneOfByte k
  | _ => none

/-- The body of a RELEASE request of one action: lane number and action byte (R65 to R67, R164). -/
def releaseBody (a : ReleaseAction) : List Byte → Option LaneId
  | [k, act] => if act = a.code then laneOfByte k else none
  | _ => none

/-- The entitlement part of the pass record body, 19 bytes. The parts its flags mark absent are not read, nor are the
flags no field uses (R166, log entry 18, DEDUCED). -/
def entitlementBody (body : List Byte) : Option Entitlement :=
  if body.length = 19 then
    let flags := BitVec.ofNat 8 (fieldAt 12 1 body)
    some
      { serial := fieldAt 0 4 body
        classNo := fieldAt 4 1 body
        firstDay := fieldAt 5 2 body
        window := fieldAt 7 1 body
        rideDays := fieldAt 8 1 body
        paid := fieldAt 9 3 body
        blocked := flags.getLsbD 0
        zones := if flags.getLsbD 1 then some (BitVec.ofNat 16 (fieldAt 13 2 body)) else none
        hours :=
          if flags.getLsbD 2 then some { fromMinute := fieldAt 15 2 body, toMinute := fieldAt 17 2 body } else none }
  else none

/-- An hour window is within a day and its start below its end (R2). -/
def hoursOk : Option HourWindow → Bool
  | none => true
  | some h => decide (h.fromMinute < h.toMinute) && decide (h.toMinute ≤ 1440)

/-- The constraints of R2, by which RECORD PUT refuses an entitlement (R125). -/
def entitlementOk (e : Entitlement) : Bool :=
  decide (1 ≤ e.serial) && decide (e.serial < 2 ^ 32) && decide (e.classNo ≤ 63) && decide (e.firstDay ≤ 1023) &&
    decide (1 ≤ e.window) && decide (e.window ≤ 28) && decide (1 ≤ e.rideDays) && decide (e.rideDays ≤ 14) &&
    decide (e.rideDays ≤ e.window) && decide (e.paid ≤ 16777215) && hoursOk e.hours

/-- The fields of a tariff class as TARIFF PUT sends them, after the class number: present, P(1) to P(14), fee_min,
fee_permille, step, cap_permille, lapsed_refundable (R100, R101). fee_min and step take 2 bytes each, the fewest that hold their
ranges, and not the 3 of an amount of money (R166, log entry 36, DEDUCED). -/
def tariffClassBody (fields : List Byte) : Option TariffClass :=
  if fields.length = 52 then
    match boolOfByte (fields.getD 0 0), boolOfByte (fields.getD 51 0) with
    | some present, some lapsed =>
      some
        { present := present
          prices := Vector.ofFn (fun i : Fin 14 => fieldAt (1 + 3 * i.val) 3 fields)
          feeMin := fieldAt 43 2 fields
          feePermille := fieldAt 45 2 fields
          step := fieldAt 47 2 fields
          capPermille := fieldAt 49 2 fields
          lapsed := lapsed }
    | _, _ => none
  else none

/-- A tariff class number, 0 to 63 (R101, R102). -/
def classOfByte (b : Byte) : Option (Fin 64) := if h : b.toNat < 64 then some ⟨b.toNat, h⟩ else none

/-- What the table engine is asked, after the check of a body's form (R19). -/
inductive EngineOp where
  | admitPass (serial : Nat)
  | passRead (serial : Nat)
  | block (serial : Nat)
  | unblock (serial : Nat)
  | pageOpen (page : Nat)
  | recordPut (e : Entitlement)
  | recordDrop (serial : Nat)
  | stagingRead (position : Nat)
  | pageCommit
  | pageAbandon
  | tariffPut (c : Fin 64) (cls : TariffClass)
  | tariffRead (c : Fin 64)
  | tariffLock
  | refundQuote (serial asked : Nat)
  | refundCommit (serial days expected : Nat)
  | journalRead (fromSeq : Count32)
  | journalRelease (upTo : Count32)
  deriving DecidableEq, Repr

/-- The engine's check of a request body's form, and the operands of one that has it (R19). Kinds the engine does not
serve have no form here. -/
def engineOp (k : Kind) (body : List Byte) : Option EngineOp :=
  match k with
  | .admitPass => (oneSerial body).map .admitPass
  | .passRead => (oneSerial body).map .passRead
  | .block => (oneSerial body).map .block
  | .unblock => (oneSerial body).map .unblock
  | .pageOpen =>
    match oneNumber 2 body with
    | some page => if page < Config.pageCount then some (.pageOpen page) else none
    | none => none
  | .recordPut =>
    match entitlementBody body with
    | some e => if entitlementOk e then some (.recordPut e) else none
    | none => none
  | .recordDrop => (oneSerial body).map .recordDrop
  | .stagingRead =>
    match oneNumber 1 body with
    | some i => if i ≤ 31 then some (.stagingRead i) else none
    | none => none
  | .pageCommit => if body = [] then some .pageCommit else none
  | .pageAbandon => if body = [] then some .pageAbandon else none
  | .tariffPut =>
    match body with
    | [] => none
    | b :: fields =>
      match classOfByte b, tariffClassBody fields with
      | some c, some cls => some (.tariffPut c cls)
      | _, _ => none
  | .tariffRead =>
    match body with
    | [b] => (classOfByte b).map .tariffRead
    | _ => none
  | .tariffLock => if body = [] then some .tariffLock else none
  | .refundQuote =>
    if body.length = 5 ∧ fieldAt 4 1 body ≤ 14 then some (.refundQuote (fieldAt 0 4 body) (fieldAt 4 1 body))
    else none
  | .refundCommit =>
    if body.length = 8 ∧ 1 ≤ fieldAt 4 1 body ∧ fieldAt 4 1 body ≤ 14 then
      some (.refundCommit (fieldAt 0 4 body) (fieldAt 4 1 body) (fieldAt 5 3 body))
    else none
  | .journalRead => (oneSequence body).map .journalRead
  | .journalRelease => (oneSequence body).map .journalRelease
  | .laneStatus => none
  | .portReset => none
  | .laneState => none
  | .laneAck => none
  | .release => none
  | .logRead => none
  | .logRelease => none
  | .timeReference => none
  | .readTime => none
  | .configure => none
  | .readProfile => none
  | .subscribe => none
  | .fetchNotices => none
  | .stationRestart => none

/-- The body of a TIME REFERENCE: T_ref and the force mark (R143). Five bytes hold no T_ref above 2^40 - 1. -/
def referenceBody (body : List Byte) : Option (Nat × Bool) :=
  if body.length = 6 then (boolOfByte (body.getD 5 0)).map (fun force => (fieldAt 0 5 body, force)) else none

/-- The body of a SUBSCRIBE: a mask whose bits 10 to 15 are clear (R170). -/
def maskBody (body : List Byte) : Option Word16 :=
  match oneNumber 2 body with
  | some m => if m < 1024 then some (BitVec.ofNat 16 m) else none
  | none => none

/-- The profile fields of a CONFIGURE item, with the item's index where the field has one (R172, R173). -/
inductive ProfileField where
  | lanesEnabled
  | lift (k : LaneId)
  | zone (l : LiftId)
  | passback (l : LiftId)
  | mode (k : LaneId)
  | pulse
  | passTimeout
  | interval
  | rollover
  | policy
  | stationId
  | trim
  deriving DecidableEq, Repr

/-- The field code of a field (R172). -/
def ProfileField.code : ProfileField → Nat
  | .lanesEnabled => 0x01
  | .lift _ => 0x02
  | .zone _ => 0x03
  | .passback _ => 0x04
  | .mode _ => 0x05
  | .pulse => 0x06
  | .passTimeout => 0x07
  | .interval => 0x08
  | .rollover => 0x09
  | .policy => 0x0A
  | .stationId => 0x0B
  | .trim => 0x0C

/-- The field a code and an index name: an index above 5 for a lane field, above 1 for a lift field, or other than 0 for a
field without index is of no form (R173). -/
def fieldOfBytes (code index : Byte) : Option ProfileField :=
  let lane := laneOfByte index
  let lift : Option LiftId := if h : index.toNat < 2 then some ⟨index.toNat, h⟩ else none
  let plain (f : ProfileField) : Option ProfileField := if index = 0 then some f else none
  match code.toNat with
  | 0x01 => plain .lanesEnabled
  | 0x02 => lane.map .lift
  | 0x03 => lift.map .zone
  | 0x04 => lift.map .passback
  | 0x05 => lane.map .mode
  | 0x06 => plain .pulse
  | 0x07 => plain .passTimeout
  | 0x08 => plain .interval
  | 0x09 => plain .rollover
  | 0x0A => plain .policy
  | 0x0B => plain .stationId
  | 0x0C => plain .trim
  | _ => none

/-- The width of a field's value in bytes (R173). -/
def ProfileField.width : ProfileField → Nat
  | .lanesEnabled => 1
  | .lift _ => 1
  | .zone _ => 1
  | .passback _ => 2
  | .mode _ => 1
  | .pulse => 2
  | .passTimeout => 1
  | .interval => 1
  | .rollover => 2
  | .policy => 1
  | .stationId => 2
  | .trim => 2

/-- One item of a CONFIGURE: a field and the value sent, signed for the trim (R173). -/
structure ConfigItem where
  field : ProfileField
  value : Int
  deriving DecidableEq, Repr

/-- The value an item's bytes spell (R173). -/
def itemValue (f : ProfileField) (bs : List Byte) : Int :=
  match f with
  | .trim => ofSigned16 bs
  | _ => (ofBytes bs : Int)

/-- The items of a CONFIGURE body, in the order sent; `fuel` bounds their number by the body's length (R173). -/
def configItems : Nat → List Byte → Option (List ConfigItem)
  | _, [] => some []
  | 0, _ :: _ => none
  | fuel + 1, code :: index :: rest =>
    match fieldOfBytes code index with
    | none => none
    | some f =>
      if rest.length < f.width then none
      else
        match configItems fuel (rest.drop f.width) with
        | none => none
        | some items => some ({ field := f, value := itemValue f (rest.take f.width) } :: items)
  | _ + 1, [_] => none

/-- The body of a CONFIGURE: one or more whole items, no two of the same field and index (R173). -/
def configureBody (body : List Byte) : Option (List ConfigItem) :=
  match configItems body.length body with
  | none => none
  | some items =>
    if items = [] ∨ ¬ (items.map ConfigItem.field).Nodup then none else some items

end Sys2Proof.Machine
end

