-- ==== Sys2Proof/Machine/Flags.lean ====
section
/-! DEFINITION. What the flags and lines of the device read: health bands and estimated marks, cause sets, interval flags,
subscription masks, attention lines and data-out. -/

namespace Sys2Proof

/-- The flags of two sources together (R89, R91). -/
def IntervalFlags.union (a b : IntervalFlags) : IntervalFlags where
  extended := a.extended || b.extended
  interrupted := a.interrupted || b.interrupted
  stepped := a.stepped || b.stepped
  cut := a.cut || b.cut

/-- The flag of a closing by a step (R92). -/
def IntervalFlags.ofStep : IntervalFlags := { stepped := true }
/-- The flag of a closing by a cut (R94). -/
def IntervalFlags.ofCut : IntervalFlags := { cut := true }
/-- The flag an interval held on a full log gathers (R91). -/
def IntervalFlags.ofHeld : IntervalFlags := { extended := true }

end Sys2Proof

namespace Sys2Proof.Machine

/-- The band of a sensor health score (R81). -/
def bandOf (score : Nat) : HealthBand :=
  if score < Config.suspectFrom then .sound
  else if score < Config.failedFrom then .suspect
  else .failed

/-- The estimated mark of a lane's count events: its band is SUSPECT or FAILED (R79). -/
def Lane.estimated (l : Lane) : Bool := bandOf l.score != .sound

/-- The entry is RELEASED (R63). -/
def Entry.released (e : Entry) : Bool := e.release.isSome

/-- The LANE_STATE detail of a lane as it stands (R62). -/
def Lane.stateDetail (k : LaneId) (l : Lane) : NoticeDetail :=
  .laneState k l.current l.requested l.firstCause l.errorFlag l.causeSensor l.causeLink

/-- The notice code of a detail's kind (R166). -/
def noticeCode : NoticeDetail → Nat
  | .laneState .. => 1
  | .sensorHealth .. => 2
  | .tailgate .. => 3
  | .intervalClosed .. => 4
  | .dayRollover .. => 5
  | .timebase .. => 6
  | .journalHigh .. => 7
  | .staging .. => 8
  | .refundCommitted .. => 9
  | .logFull .. => 10

/-- The subject of a detail: a lane, or none for the STATION (R167). -/
def noticeSubject : NoticeDetail → Option LaneId
  | .laneState k .. => some k
  | .sensorHealth k .. => some k
  | .tailgate k .. => some k
  | .intervalClosed .. => none
  | .dayRollover .. => none
  | .timebase .. => none
  | .journalHigh .. => none
  | .staging .. => none
  | .refundCommitted .. => none
  | .logFull .. => none

/-- The blocks that post notices (R168). -/
inductive NoticeSource where
  | laneUnit (k : LaneId)
  | countUnit
  | timebase
  | refundUnit
  | stagingBuffer
  deriving DecidableEq, Repr

/-- The block that posts a detail (R62, R76, R81, R88, R91, R114, R119, R135, R142, R151). -/
def noticeSource : NoticeDetail → NoticeSource
  | .laneState k .. => .laneUnit k
  | .sensorHealth k .. => .laneUnit k
  | .tailgate k .. => .laneUnit k
  | .intervalClosed .. => .countUnit
  | .logFull .. => .countUnit
  | .dayRollover .. => .timebase
  | .timebase .. => .timebase
  | .journalHigh .. => .refundUnit
  | .refundCommitted .. => .refundUnit
  | .staging .. => .stagingBuffer

/-- Kind and subject: what a queue holds at most once (R168). -/
def noticeKey (d : NoticeDetail) : Nat × Option LaneId := (noticeCode d, noticeSubject d)

/-- The mask includes the kind: bit (code - 1) stands for it (R170). -/
def maskIncludes (mask : Word16) (d : NoticeDetail) : Bool := mask.getLsbD (noticeCode d - 1)

/-- The first position is ready (R160, R161). -/
def PortState.firstReady (ps : PortState) : Bool :=
  match ps.positions with
  | .ready _ :: _ => true
  | _ => false

end Sys2Proof.Machine
end

