-- ==== Sys2Proof/Machine/Ops.lean ====
section
/-! DEFINITION. The shared operations: reading and writing a lane or a port, sending count events, posts and tasks,
answering a request in its position, and receiving a request frame. -/

namespace Sys2Proof.Machine

/-! ## Lanes and ports -/

/-- The lane unit of lane `k`. -/
def State.lane (s : State) (k : LaneId) : Lane := s.lanes[k.val]

/-- The state with lane `k`'s unit replaced. -/
def State.setLane (s : State) (k : LaneId) (l : Lane) : State := { s with lanes := s.lanes.set k.val l }

/-- The link port `p`. -/
def State.port (s : State) : Port → PortState
  | .lane k => s.lanePorts[k.val]
  | .station i => s.stationPorts[i.val]

/-- The state with port `p` replaced. -/
def State.setPort (s : State) (p : Port) (ps : PortState) : State :=
  match p with
  | .lane k => { s with lanePorts := s.lanePorts.set k.val ps }
  | .station i => { s with stationPorts := s.stationPorts.set i.val ps }

/-- The notice unit's holdings for station port `i`. -/
def State.noticePort (s : State) (i : StationId) : NoticePort := s.notices[i.val]

/-- The state with the notice unit's holdings for station port `i` replaced. -/
def State.setNoticePort (s : State) (i : StationId) (n : NoticePort) : State :=
  { s with notices := s.notices.set i.val n }

/-- The page-busy mark: it names the page of a PAGE COMMIT from the beginning of its write to its completion (R14). -/
def State.pageBusy (s : State) : Option Nat :=
  match s.staging with
  | .committing b _ => some b.page
  | _ => none

/-- A lane takes sensor edges: the device is READY and the lane lies below the lanes-enabled count (R73). -/
def State.takesEdges (s : State) (k : LaneId) : Bool :=
  s.phase == .ready && decide (k.val < s.profile.lanesEnabled)

/-! ## Between the blocks -/

/-- A block hands the notice unit posts, in order (R168). -/
def State.postAll (s : State) (ds : List NoticeDetail) : State :=
  { s with postsInFlight := s.postsInFlight ++ ds }

/-- A block hands the notice unit one post (R168). -/
def State.post (s : State) (d : NoticeDetail) : State := s.postAll [d]

/-- A block sends the count unit count events, in order (R79, R85). -/
def State.sendAll (s : State) (evs : List CountEvent) : State :=
  { s with countsInFlight := s.countsInFlight ++ evs }

/-- A block sends the count unit one count event (R85). -/
def State.send (s : State) (ev : CountEvent) : State := s.sendAll [ev]

/-- Lane units submit tasks to the end of the task queue, in order (R21). -/
def State.submitAll (s : State) (ts : List Task) : State :=
  { s with engine := { s.engine with tasks := s.engine.tasks ++ ts } }

/-! ## Response positions -/

/-- A BUSY response is made ready when every earlier position is ready (R157). -/
def readyBusy : List Position → List Position
  | [] => []
  | .ready r :: rest => .ready r :: readyBusy rest
  | .busy kind tag :: rest => .ready { kind := kind, tag := tag, code := .busy, body := [] } :: readyBusy rest
  | .reserved kind tag :: rest => .reserved kind tag :: rest

/-- The pending request's position is made ready (R159); without a pending request nothing changes. -/
def fillReserved (code : Code) (body : List Byte) : List Position → List Position
  | [] => []
  | .reserved kind tag :: rest => .ready { kind := kind, tag := tag, code := code, body := body } :: rest
  | q :: rest => q :: fillReserved code body rest

/-- The position is reserved for the pending request (R157). -/
def Position.isReserved : Position → Bool
  | .reserved _ _ => true
  | _ => false

/-- The port holds a pending request (R157). -/
def PortState.hasPending (ps : PortState) : Bool := ps.positions.any Position.isReserved

/-- Both response positions are taken (R157). -/
def PortState.isFull (ps : PortState) : Bool := decide (Config.positionsMax ≤ ps.positions.length)

/-- The port with one more position taken (R157). -/
def PortState.take (ps : PortState) (q : Position) : PortState := { ps with positions := ps.positions ++ [q] }

/-- The port with the pending request answered (R159). -/
def PortState.answer (ps : PortState) (code : Code) (body : List Byte) : PortState :=
  { ps with positions := readyBusy (fillReserved code body ps.positions) }

/-- The serving block gives the port the response of its pending request (R159). -/
def State.respond (s : State) (p : Port) (code : Code) (body : List Byte) : State :=
  s.setPort p ((s.port p).answer code body)

/-- What a serving block makes of a request: the state after its service, the outcome and the response body. -/
structure Served where
  state : State
  code : Code
  body : List Byte

/-- A service's response is made ready at the port (R159). -/
def Served.answerAt (r : Served) (p : Port) : State := r.state.respond p r.code r.body

/-! ## Receiving a frame -/

/-- The kinds each class of port permits (R158). -/
def permitted (k : Kind) : Port → Bool
  | .lane _ => k == .admitPass || k == .laneStatus || k == .portReset
  | .station _ => k != .admitPass

/-- A sound frame other than PORT RESET reaches a port: it is accepted as pending and judged, or answered BUSY, or
discarded (R157). -/
def State.receive (s : State) (p : Port) (kind tag : Byte) (judge : State → State) : State :=
  let ps := s.port p
  if ps.isFull then s
  else if ps.hasPending then s.setPort p (ps.take (.busy kind tag))
  else judge (s.setPort p (ps.take (.reserved kind tag)))

/-- The port's judgement of a request of a known kind, and then its service (R158). -/
def State.judge (s : State) (p : Port) (k : Kind) (serve : State → State) : State :=
  if permitted k p = false then s.respond p .notPermitted []
  else if s.phase = .starting then s.respond p .notReady []
  else serve s

/-- A sound request of a known kind reaches a port (R157, R158). -/
def State.request (s : State) (p : Port) (k : Kind) (tag : Byte) (serve : State → State) : State :=
  s.receive p k.code tag (fun s1 => s1.judge p k serve)

/-- A request that a block other than the table engine serves at once (R158, R159). -/
def State.requestUnit (s : State) (p : Port) (k : Kind) (tag : Byte) (serve : State → Served) : State :=
  s.request p k tag (fun s1 => (serve s1).answerAt p)

/-- The place of a port in the cyclic order LP0 to LP5, SP0, SP1 (R23). -/
def portIndex : Port → Nat
  | .lane k => k.val
  | .station i => 6 + i.val

/-- A request joins the pending set, which is held in the order of the ports (R20). -/
def insertRequest (r : Request) : List Request → List Request
  | [] => [r]
  | q :: rest => if portIndex r.port < portIndex q.port then r :: q :: rest else q :: insertRequest r rest

/-- A request enters the pending set (R20). -/
def State.enqueue (s : State) (r : Request) : State :=
  { s with engine := { s.engine with pendingSet := insertRequest r s.engine.pendingSet } }

/-- A request of a kind the table engine serves reaches a port (R20, R158). -/
def State.requestEngine (s : State) (p : Port) (k : Kind) (tag : Byte) (body : List Byte) : State :=
  s.request p k tag (fun s1 => s1.enqueue { port := p, kind := k, tag := tag, body := body, left := false })

/-! ## Outputs of the ports -/

/-- The attention line of a port (R161). -/
def State.attention (s : State) (p : Port) : Bool :=
  (s.port p).firstReady ||
    match p with
    | .lane _ => false
    | .station i => !(s.noticePort i).queue.isEmpty

end Sys2Proof.Machine
end

