-- ==== Sys2Proof/Machine/Layout.lean ====
section
/-! DEFINITION. The layouts of responses: outcome codes, enumerations, records, notices, and the body of each kind of
response (R159, R165, R166). A body carries each of its kind's fields once; a field for which the rule names no content
under the outcome is zero bytes of its width. -/

namespace Sys2Proof.Machine

/-- The outcome codes (R165). -/
def Code.byte : Code → Byte
  | .ok => 0x00
  | .busy => 0x01
  | .frameError => 0x02
  | .unknownKind => 0x03
  | .notPermitted => 0x04
  | .badArgument => 0x05
  | .notReady => 0x06
  | .admitted => 0x10
  | .unknownPass => 0x11
  | .blocked => 0x12
  | .notYetValid => 0x13
  | .expired => 0x14
  | .zone => 0x15
  | .hours => 0x16
  | .passback => 0x17
  | .noDaysLeft => 0x18
  | .refunded => 0x19
  | .laneShut => 0x1A
  | .wait => 0x1B
  | .invalidTransition => 0x20
  | .timeUnset => 0x21
  | .errorPending => 0x22
  | .laneBusy => 0x23
  | .nothingPending => 0x24
  | .stagingHeld => 0x30
  | .stagingEmpty => 0x31
  | .committing => 0x32
  | .wrongPage => 0x33
  | .pageFull => 0x34
  | .notFound => 0x35
  | .conflict => 0x36
  | .writeFailed => 0x37
  | .notLocked => 0x40
  | .locked => 0x41
  | .noTariff => 0x42
  | .nothingRefundable => 0x43
  | .zeroRefund => 0x44
  | .stale => 0x45
  | .journalFull => 0x46
  | .timeBackward => 0x50
  | .lanesOpen => 0x58

/-- Start mark of a response frame (R159). -/
def responseMark : Byte := 0x5A

/-- The bytes of a response frame (R159). -/
def Response.frame (r : Response) : List Byte :=
  let covered := beBytes 2 r.body.length ++ r.kind :: r.tag :: r.code.byte :: r.body
  responseMark :: covered ++ crcBytes covered

/-- The frame that data-out carries in the select period under way; fill follows it, and stands in its place when there is
none (R160). -/
def State.dataOut (s : State) (p : Port) : List Byte :=
  match (s.port p).sending, (s.port p).positions with
  | true, .ready r :: _ => r.frame
  | _, _ => []

/-! ## Enumerations (R166) -/

/-- Lane state codes. -/
def laneStateCode : LaneState → Nat
  | .shut => 0
  | .attended => 1
  | .self => 2
  | .observe => 3

/-- First-cause codes. -/
def causeCode : Option ErrorCause → Nat
  | none => 0
  | some .sensorFailed => 1
  | some .linkReset => 2

/-- A cause set: bit 0 SENSOR_FAILED, bit 1 LINK_RESET. -/
def causeSetCode (sensor link : Bool) : Nat := sensor.toNat + 2 * link.toNat

/-- Health band codes. -/
def bandCode : HealthBand → Nat
  | .sound => 0
  | .suspect => 1
  | .failed => 2

/-- Timebase state codes. -/
def statusCode : TimebaseStatus → Nat
  | .unset => 0
  | .locked => 1
  | .free => 2

/-- Where an admission's entry stood, or a free passage's (R48, R67). -/
inductive EntryPosition where
  | none
  | head
  | behind
  deriving DecidableEq, Repr

/-- Entry position codes. -/
def positionCode : EntryPosition → Nat
  | .none => 0
  | .head => 1
  | .behind => 2

/-- Staged mark codes. -/
def markCode : StagedMark → Nat
  | .copied => 0
  | .replaced => 1
  | .new => 2

/-- Staging outcome codes. -/
def stagingOutcomeCode : StagingOutcome → Nat
  | .committed => 0
  | .failed => 1
  | .abandoned => 2

/-- The conflict reasons of R131. -/
inductive ConflictReason where
  | days
  | window
  | paid
  | provisional
  deriving DecidableEq, Repr

/-- Conflict reason codes. -/
def conflictCode : ConflictReason → Nat
  | .days => 0
  | .window => 1
  | .paid => 2
  | .provisional => 3

/-- The cases of a TIME REFERENCE (R148). -/
inductive ReferenceCase where
  | set
  | slew
  | step
  | forced
  | refused
  deriving DecidableEq, Repr

/-- Reference case codes. -/
def caseCode : ReferenceCase → Nat
  | .set => 0
  | .slew => 1
  | .step => 2
  | .forced => 3
  | .refused => 4

/-- Sequencer state codes. -/
def sequencerCode : Sequencer → Nat
  | .idle => 0
  | .aSeen _ => 1
  | .bSeen _ => 2

/-- Release mode codes. -/
def modeCode : ReleaseMode → Nat
  | .timed => 0
  | .held => 1

/-- Arbitration policy codes (R172). -/
def policyCode : Policy → Nat
  | .roundRobin => 0
  | .lanesFirst => 1
  | .stationFirst => 2

/-! ## Records -/

/-- The flags of an interval: bit 0 EXTENDED, bit 1 INTERRUPTED, bit 2 STEPPED, bit 3 CUT (R166). -/
def flagsCode (f : IntervalFlags) : Nat :=
  f.extended.toNat + 2 * f.interrupted.toNat + 4 * f.stepped.toNat + 8 * f.cut.toNat

/-- The entitlement part, the first 19 bytes of the pass record body (R166). -/
def entitlementBytes (e : Entitlement) : List Byte :=
  beBytes 4 e.serial ++ beBytes 1 e.classNo ++ beBytes 2 e.firstDay ++ beBytes 1 e.window ++ beBytes 1 e.rideDays ++
    beBytes 3 e.paid ++ beBytes 1 (e.blocked.toNat + 2 * e.zones.isSome.toNat + 4 * e.hours.isSome.toNat) ++
    (match e.zones with
      | none => zeros 2
      | some z => beBytes 2 z.toNat) ++
    (match e.hours with
      | none => zeros 4
      | some h => beBytes 2 h.fromMinute ++ beBytes 2 h.toMinute)

/-- A used day: its day, then 00h for CONFIRMED or the holder count (R166). -/
def usedDayBytes (u : UsedDay) : List Byte :=
  beBytes 2 u.day ++
    (match u.state with
      | .confirmed => zeros 1
      | .provisional holders => beBytes 1 holders)

/-- Remaining ride-days (R9). -/
def PassRecord.remaining (r : PassRecord) : Nat := r.ent.rideDays - r.usage.used.length - r.usage.refundedDays

/-- The last valid day, first + w - 1 (R2). -/
def Entitlement.lastDay (e : Entitlement) : Nat := e.firstDay + e.window - 1

/-- The pass record body of PASS READ: 40 bytes and 3 for each used day (R16, R166). -/
def recordBytes (r : PassRecord) : List Byte :=
  entitlementBytes r.ent ++ beBytes 1 (r.usage.stamp.isSome.toNat + 2 * r.usage.rides.isSome.toNat) ++
    beBytes 1 r.usage.refundedDays ++ beBytes 3 r.usage.refundedTotal ++ beBytes 3 (r.ent.paid - r.usage.refundedTotal) ++
    (match r.usage.stamp with
      | none => zeros 6
      | some st => beBytes 5 st.time ++ beBytes 1 st.lift.val) ++
    (match r.usage.rides with
      | none => zeros 3
      | some rt => beBytes 2 rt.day ++ beBytes 1 rt.count) ++
    beBytes 1 r.remaining ++ beBytes 2 r.ent.lastDay ++ beBytes 1 r.usage.used.length ++
    r.usage.used.flatMap usedDayBytes

/-- PASS READ of an unknown pass: the serial echoed and every other field 0 (R16). -/
def noRecordBytes (serial : Nat) : List Byte := beBytes 4 serial ++ zeros 36

/-- The port codes: 00h to 05h LP0 to LP5, 06h SP0, 07h SP1 (R166). -/
def portBytes (p : Port) : List Byte := beBytes 1 (portIndex p)

/-- A journal record, 21 bytes (R166). -/
def journalBytes (j : JournalRecord) : List Byte :=
  beBytes 4 j.seq.toNat ++ beBytes 4 j.serial ++ beBytes 1 j.classNo ++ beBytes 1 j.days ++ beBytes 3 j.amount ++
    beBytes 2 j.day ++ beBytes 5 j.time ++ portBytes j.port

/-- The six counts of a lane, 24 bytes (R166). -/
def countsBytes (c : LaneCounts) : List Byte :=
  beBytes 4 c.passed.toNat ++ beBytes 4 c.free.toNat ++ beBytes 4 c.balked.toNat ++ beBytes 4 c.tailgate.toNat ++
    beBytes 4 c.reverse.toNat ++ beBytes 4 c.refused.toNat

/-- The ESTIMATED byte: bit k for lane k (R166). -/
def estimatedCode (lanes : List LaneCounts) : Nat := lanes.foldr (fun c acc => c.estimated.toNat + 2 * acc) 0

/-- An interval log record, 166 bytes (R166). -/
def logBytes (r : LogRecord) : List Byte :=
  beBytes 4 r.seq.toNat ++ beBytes 2 r.day ++ beBytes 2 r.startMinute ++ beBytes 2 r.length ++
    beBytes 1 (flagsCode r.flags) ++ beBytes 1 (estimatedCode r.lanes.toList) ++ r.lanes.toList.flatMap countsBytes ++
    beBytes 4 r.refunds.toNat ++ beBytes 6 r.refundAmount.toNat

/-- The detail bytes of a notice, before padding (R166). -/
def detailBytes : NoticeDetail → List Byte
  | .laneState _ current requested cause flag sensor link =>
    beBytes 1 (laneStateCode current) ++ beBytes 1 (laneStateCode requested) ++ beBytes 1 (causeCode cause) ++
      boolByte flag ++ beBytes 1 (causeSetCode sensor link)
  | .sensorHealth _ band score => beBytes 1 (bandCode band) ++ beBytes 1 score
  | .tailgate _ time => beBytes 5 time
  | .intervalClosed seq flags => beBytes 4 seq.toNat ++ beBytes 1 (flagsCode flags)
  | .dayRollover day => beBytes 2 day
  | .timebase status stepMark => beBytes 1 (statusCode status) ++ boolByte stepMark
  | .journalHigh count => beBytes 2 count
  | .staging page outcome => beBytes 2 page ++ beBytes 1 (stagingOutcomeCode outcome)
  | .refundCommitted seq serial amount => beBytes 4 seq.toNat ++ beBytes 4 serial ++ beBytes 3 amount
  | .logFull count => beBytes 1 count

/-- A notice, 24 bytes; unused bytes of the detail are 00h (R166). -/
def noticeBytes (n : Notice) : List Byte :=
  let detail := detailBytes n.detail
  beBytes 1 (noticeCode n.detail) ++
    (match noticeSubject n.detail with
      | none => beBytes 1 0xFF
      | some k => beBytes 1 k.val) ++
    beBytes 5 n.first ++ beBytes 5 n.latest ++ beBytes 1 n.count ++ detail ++ zeros (11 - detail.length)

/-- One in-flight entry in a LANE STATUS response (R82). -/
def entryBytes (e : Entry) : List Byte :=
  match e.kind with
  | .pass a =>
    beBytes 1 0 ++ boolByte e.released ++ beBytes 4 a.serial ++ beBytes 5 e.admissionTime ++ boolByte a.heldDay.isSome
  | .free => beBytes 1 1 ++ boolByte e.released ++ zeros 4 ++ beBytes 5 e.admissionTime ++ boolByte false

/-- The edge timestamps of a sensor: last rising edge, then last falling edge (R82). -/
def edgeBytes (x : Sensor) : List Byte := beBytes 5 x.lastRise ++ beBytes 5 x.lastFall

/-- The body of a LANE STATUS response (R82). -/
def laneStatusBytes (l : Lane) (mode : ReleaseMode) : List Byte :=
  beBytes 1 (laneStateCode l.current) ++ beBytes 1 (laneStateCode l.requested) ++ boolByte l.errorFlag ++
    beBytes 1 (causeCode l.firstCause) ++ beBytes 1 (causeSetCode l.causeSensor l.causeLink) ++ beBytes 1 l.score ++
    beBytes 1 (bandCode (bandOf l.score)) ++ beBytes 1 (modeCode mode) ++ boolByte l.output ++
    beBytes 1 (sequencerCode l.sequencer) ++ boolByte l.sensorA.level ++ boolByte l.sensorB.level ++
    edgeBytes l.sensorA ++ edgeBytes l.sensorB ++ beBytes 1 l.inflight.length ++ l.inflight.flatMap entryBytes

/-- The body of a LANE STATE response (R57). -/
def laneStateBytes (k : LaneId) (l : Lane) : List Byte :=
  beBytes 1 k.val ++ beBytes 1 (laneStateCode l.current) ++ beBytes 1 (laneStateCode l.requested) ++
    boolByte l.errorFlag ++ beBytes 1 (causeCode l.firstCause)

/-- The body of a LANE ACK response (R61). -/
def laneAckBytes (k : LaneId) (l : Lane) : List Byte :=
  beBytes 1 k.val ++ boolByte l.errorFlag ++ beBytes 1 (causeCode l.firstCause) ++ beBytes 1 l.score

/-- The body of a RELEASE response: kind, serial and admission time of the entry acted on, and position (R65 to R67). -/
def releaseBytes (e : Entry) : List Byte :=
  match e.kind with
  | .pass a => beBytes 1 0 ++ beBytes 4 a.serial ++ beBytes 5 e.admissionTime ++ zeros 1
  | .free => beBytes 1 1 ++ zeros 4 ++ beBytes 5 e.admissionTime ++ zeros 1

/-- The body of a RELEASE FREE response: its position, the other fields of the kind 0 (R67, R166). -/
def freeBytes (q : EntryPosition) : List Byte := zeros 10 ++ beBytes 1 (positionCode q)

/-- The fields of a tariff class, 52 bytes (R100, log entry 19, DEDUCED), with fee_min and step of 2 bytes each (R166, log entry
36, DEDUCED). -/
def tariffBytes (c : TariffClass) : List Byte :=
  boolByte c.present ++ c.prices.toList.flatMap (beBytes 3) ++ beBytes 2 c.feeMin ++ beBytes 2 c.feePermille ++
    beBytes 2 c.step ++ beBytes 2 c.capPermille ++ boolByte c.lapsed

/-- Every field of the profile in code order (R172, R173, R175). -/
def profileBytes (f : Profile) (trim : Int) : List Byte :=
  beBytes 1 f.lanesEnabled ++ f.liftOf.toList.flatMap (fun l => beBytes 1 l.val) ++ f.zoneOf.toList.flatMap (beBytes 1) ++
    f.passback.toList.flatMap (beBytes 2) ++ f.modeOf.toList.flatMap (fun m => beBytes 1 (modeCode m)) ++
    beBytes 2 f.pulse ++ beBytes 1 f.passTimeout ++ beBytes 1 f.intervalMinutes ++ beBytes 2 f.rollover ++
    beBytes 1 (policyCode f.policy) ++ beBytes 2 f.stationId ++ beSigned 2 trim

/-- The identity: family code, part code, silicon revision (R175). -/
def identityBytes : List Byte :=
  beBytes 1 Config.familyCode ++ beBytes 2 Config.partCode ++ beBytes 1 Config.revisionCode

/-- The body of a READ TIME response (R149). The reference age is an optional part, with its presence flag (R166, log
entry 21, DEDUCED). -/
def timeBytes (s : State) : List Byte :=
  beBytes 5 s.timebase.time ++ beBytes 2 s.opDay ++ beBytes 2 s.minute ++ beBytes 1 (statusCode s.timebase.status) ++
    beSigned 2 s.timebase.trim ++ beSigned 2 s.timebase.correction ++
    (match s.timebase.refAge with
      | none => zeros 3
      | some age => beBytes 1 1 ++ beBytes 2 (min 65535 (age / 1000))) ++
    beBytes 2 s.timebase.currentDay ++ beBytes 5 s.timebase.lastKnown ++ beBytes 2 s.profile.rollover

/-- The body of a TIME REFERENCE response (R148). -/
def referenceBytes (caseByte : Nat) (e : Int) (s : State) : List Byte :=
  beBytes 1 caseByte ++ beSigned 6 e ++ beBytes 5 s.timebase.time ++ beBytes 1 (statusCode s.timebase.status) ++
    beSigned 2 s.timebase.trim ++ beSigned 2 s.timebase.correction ++ beBytes 2 s.opDay

/-- The body with which the engine answers BAD_ARGUMENT: zero bytes of each field's width (R166, log entry 15, DEDUCED), but for
the serial that ADMIT and the refund requests echo (R48, R115) and the lock state that every response of TARIFF LOCK carries
(R103). -/
def engineBadBody (locked : Bool) (k : Kind) (body : List Byte) : List Byte :=
  match k with
  | .admitPass => beBytes 4 (echoedSerial body) ++ zeros 7
  | .passRead => zeros 40
  | .block => zeros 6
  | .unblock => zeros 6
  | .pageOpen => zeros 3
  | .recordPut => zeros 9
  | .recordDrop => zeros 5
  | .stagingRead => zeros 7
  | .pageCommit => zeros 12
  | .pageAbandon => zeros 2
  | .tariffPut => zeros 52
  | .tariffRead => zeros 53
  | .tariffLock => boolByte locked
  | .refundQuote => beBytes 4 (echoedSerial body) ++ zeros 23
  | .refundCommit => beBytes 4 (echoedSerial body) ++ zeros 23
  | .journalRead => zeros 11
  | .journalRelease => zeros 8
  | .laneStatus => []
  | .portReset => []
  | .laneState => []
  | .laneAck => []
  | .release => []
  | .logRead => []
  | .logRelease => []
  | .timeReference => []
  | .readTime => []
  | .configure => []
  | .readProfile => []
  | .subscribe => []
  | .fetchNotices => []
  | .stationRestart => []

end Sys2Proof.Machine
end

