-- ==== Sys2Proof/Machine/LaneUnit.lean ====
section
/-! DEFINITION. The lane unit: release, balk, completion, error indication, sensor health, sequencer and rotation pairing
(chapter 4). Each operation takes one lane as it stands and answers the lane after the event with the tasks, count events
and posts the event sends. -/

namespace Sys2Proof.Machine

/-- What an event at a lane reads from outside it: the lane's number, station time, elapsed time, and the profile's release
lengths at the event (R55, R68, R72). -/
structure LaneCtx where
  k : LaneId
  time : Nat
  elapsed : Nat
  timeout : Nat
  pulse : Nat
  deriving DecidableEq, Repr

/-- What an event at a lane leaves: the lane, and what it sends, in order. -/
structure LaneOut where
  lane : Lane
  tasks : List Task := []
  counts : List CountEvent := []
  posts : List NoticeDetail := []
  deriving DecidableEq, Repr

/-- A further part of the same event at the lane the first part left. -/
def LaneOut.andThen (o : LaneOut) (f : Lane → LaneOut) : LaneOut :=
  let r := f o.lane
  { lane := r.lane, tasks := o.tasks ++ r.tasks, counts := o.counts ++ r.counts, posts := o.posts ++ r.posts }

/-- The outside readings of lane `k` (R55, R68, R72). -/
def State.laneCtx (s : State) (k : LaneId) : LaneCtx where
  k := k
  time := s.timebase.time
  elapsed := s.elapsed
  timeout := s.profile.passTimeout * 1000
  pulse := s.profile.pulse

/-- The state after an event at lane `k`: the lane, the tasks submitted, the count events sent and the notices posted. -/
def State.applyLane (s : State) (k : LaneId) (o : LaneOut) : State :=
  (((s.setLane k o.lane).submitAll o.tasks).sendAll o.counts).postAll o.posts

/-! ## In-flight entries -/

/-- The entry released at this event (R63, R64, R72). -/
def Entry.releaseAt (e : Entry) (c : LaneCtx) : Entry :=
  { e with release := some { mark := c.elapsed, timeout := c.timeout, pulse := c.pulse } }

/-- The task a PASS entry hands over when it leaves; a FREE entry hands none (R21). -/
def Entry.task (e : Entry) (c : LaneCtx) (kind : TaskKind) : List Task :=
  match e.kind with
  | .pass a => [{ kind := kind, lane := c.k, pass := a, left := false }]
  | .free => []

/-- A WAITING head's timeout has ended: its admission mark plus the pass timeout noted at its admission (R64, R68, log entry
14, DEDUCED). -/
def Entry.admissionOver (e : Entry) (elapsed : Nat) : Bool := decide (e.admissionMark + e.admissionTimeout ≤ elapsed)

/-- The first of a list becomes head: in SELF it is released at once; in ATTENDED it waits, or balks at once where its
timeout has passed, and the entry behind it becomes head in turn (R64, R70). The output is asserted when an entry is
released in the event, and deasserted when none is (R71). -/
def settleHead (c : LaneCtx) (l : Lane) : List Entry → LaneOut
  | [] => { lane := { l with inflight := [], output := l.current == .observe } }
  | e :: rest =>
    if l.current = .self then { lane := { l with inflight := e.releaseAt c :: rest, output := true } }
    else if l.current = .attended ∧ e.admissionOver c.elapsed = true then
      let r := settleHead c l rest
      { r with tasks := e.task c .void ++ r.tasks, counts := .balk c.k l.estimated :: r.counts }
    else { lane := { l with inflight := e :: rest, output := l.current == .observe } }

/-- The head balks: it leaves, its VOID task and its balk count event go out, and the entry behind it becomes head (R70). -/
def balkHead (c : LaneCtx) (l : Lane) : LaneOut :=
  match l.inflight with
  | [] => { lane := l }
  | e :: rest =>
    let r := settleHead c l rest
    { r with tasks := e.task c .void ++ r.tasks, counts := .balk c.k l.estimated :: r.counts }

/-- The count event of an entry's completion: a passed event, and for a FREE entry the free event with it (R76, R85). -/
def Entry.passedEvent (e : Entry) (k : LaneId) (estimated : Bool) : CountEvent :=
  match e.kind with
  | .pass _ => .passed k estimated
  | .free => .passedFree k estimated

/-- The RELEASED head completes on a forward rotation (R76). -/
def completeHead (c : LaneCtx) (l : Lane) : LaneOut :=
  match l.inflight with
  | [] => { lane := l }
  | e :: rest =>
    let r := settleHead c l rest
    { r with
      tasks := e.task c .confirm ++ r.tasks
      counts := e.passedEvent c.k l.estimated :: r.counts }

/-- A new entry, WAITING, with its marks (R63, R68). -/
def newEntry (c : LaneCtx) (kind : EntryKind) : Entry where
  kind := kind
  admissionTime := c.time
  admissionMark := c.elapsed
  admissionTimeout := c.timeout
  release := none

/-- An entry joins the end of the list; in an empty list it becomes head (R44, R63, R64). -/
def joinEntry (c : LaneCtx) (l : Lane) (e : Entry) : LaneOut :=
  if l.inflight = [] then settleHead c l [e] else { lane := { l with inflight := l.inflight ++ [e] } }

/-- Where a new entry stands (R48, R67). -/
def joinPosition (l : Lane) : EntryPosition := if l.inflight = [] then .head else .behind

/-- A WAITING head is released (R58, R65); anything else stays. -/
def releaseHead (c : LaneCtx) (l : Lane) : Lane :=
  match l.inflight with
  | e :: rest => if e.released then l else { l with inflight := e.releaseAt c :: rest, output := true }
  | [] => l

/-- The WAITING head of a lane in ATTENDED: what RELEASE GO and RELEASE DENY act on (R65, R66). -/
def waitingHead (l : Lane) : Option Entry :=
  match l.inflight with
  | e :: _ => if l.current = .attended ∧ e.released = false then some e else none
  | [] => none

/-- The held day of another holder is cleared when its day is confirmed (R51). -/
def Entry.clearHeld (serial day : Nat) (e : Entry) : Entry :=
  match e.kind with
  | .pass a =>
    if a.serial = serial ∧ a.heldDay = some day then { e with kind := .pass { a with heldDay := none } } else e
  | .free => e

/-- The clearing of R51 at one lane. -/
def Lane.clearHeld (serial day : Nat) (l : Lane) : Lane := { l with inflight := l.inflight.map (Entry.clearHeld serial day) }

/-! ## Lane state -/

/-- Entering SHUT: every entry is cancelled as a balk, head first, and the output is deasserted (R58, R59). -/
def enterShut (c : LaneCtx) (l : Lane) : LaneOut where
  lane := { l with current := .shut, requested := .shut, inflight := [], output := false }
  tasks := l.inflight.flatMap (fun e => e.task c .void)
  counts := l.inflight.map (fun _ => .balk c.k l.estimated)

/-- An accepted transition to another state, without its notice (R58). -/
def moveTo (c : LaneCtx) (l : Lane) (target : LaneState) : LaneOut :=
  match target with
  | .shut => enterShut c l
  | .self => { lane := releaseHead c { l with current := .self, requested := .self } }
  | .observe => { lane := { l with current := .observe, requested := .observe, output := true } }
  | .attended =>
    { lane :=
        { l with
          current := .attended
          requested := .attended
          output := if l.current = .self then l.output else false } }

/-- The checks of a LANE STATE request after those of its form, in order (R57). -/
def laneStateCheck (enabled : Bool) (status : TimebaseStatus) (l : Lane) (target : LaneState) : Code :=
  if enabled = false ∧ target ≠ .shut then .notPermitted
  else if target = l.current then .ok
  else if (l.current = .shut ∧ (target = .self ∨ target = .observe)) ∨ (l.current = .self ∧ target = .observe) ∨
      (l.current = .observe ∧ target = .self) then .invalidTransition
  else if ((l.current = .shut ∧ target = .attended) ∨ (l.current = .attended ∧ (target = .self ∨ target = .observe))) ∧
      l.errorFlag = true then .errorPending
  else if l.current = .shut ∧ target = .attended ∧ status = .unset then .timeUnset
  else if l.current = .attended ∧ target = .observe ∧ l.inflight ≠ [] then .laneBusy
  else .ok

/-- An event's LANE_STATE post: made when the event changed the current or requested state or the error indication, once
(R60, R62). -/
def withStatePost (c : LaneCtx) (before : Lane) (o : LaneOut) : LaneOut :=
  if before.stateDetail c.k = o.lane.stateDetail c.k then o
  else { o with posts := o.posts ++ [o.lane.stateDetail c.k] }

/-- An accepted LANE STATE (R57, R58, R62). -/
def commandState (c : LaneCtx) (l : Lane) (target : LaneState) : LaneOut :=
  withStatePost c l (if target = l.current then { lane := { l with requested := target } } else moveTo c l target)

/-! ## Error indication and sensor health -/

/-- A lane with an error cause added, and forced from SELF or OBSERVE to ATTENDED (R60). -/
def raiseCause (cause : ErrorCause) (l : Lane) : Lane :=
  { l with
    errorFlag := true
    firstCause := if l.errorFlag then l.firstCause else some cause
    causeSensor := l.causeSensor || cause == .sensorFailed
    causeLink := l.causeLink || cause == .linkReset
    current := if l.current = .self ∨ l.current = .observe then .attended else l.current
    output := if l.current = .observe then false else l.output }

/-- An error cause occurs: LANE_STATE is posted where it changed anything (R60, R62). -/
def causeEvent (c : LaneCtx) (cause : ErrorCause) (l : Lane) : LaneOut :=
  withStatePost c l { lane := raiseCause cause l }

/-- The score becomes `new`: a change of band posts SENSOR_HEALTH, and entering FAILED is a SENSOR_FAILED cause (R80,
R81). -/
def setScore (c : LaneCtx) (l : Lane) (new : Nat) : LaneOut :=
  let l' := { l with score := new }
  if bandOf l.score = bandOf new then { lane := l' }
  else
    let o : LaneOut := { lane := l', posts := [.sensorHealth c.k (bandOf new) new] }
    if bandOf new = .failed then o.andThen (causeEvent c .sensorFailed) else o

/-- The score rises, saturating at 255 (R80). -/
def raiseScore (c : LaneCtx) (l : Lane) (delta : Nat) : LaneOut := setScore c l (min Config.scoreMax (l.score + delta))

/-- The score falls by 1, saturating at 0 (R80). -/
def lowerScore (c : LaneCtx) (l : Lane) : LaneOut := setScore c l (l.score - 1)

/-- LANE ACK with the flag set: the indication is cleared, and with SENSOR_FAILED among the causes the score is set to 0 and
SENSOR_HEALTH posted (R61, R81). -/
def ackLane (c : LaneCtx) (l : Lane) : LaneOut :=
  if l.errorFlag = false then { lane := l }
  else
    let cleared := { l with errorFlag := false, firstCause := none, causeSensor := false, causeLink := false }
    if l.causeSensor then
      withStatePost c l { lane := { cleared with score := 0 }, posts := [.sensorHealth c.k .sound 0] }
    else withStatePost c l { lane := cleared }

/-! ## Sensors -/

/-- The sensor `x` of a lane. -/
def Lane.sensor (l : Lane) : ArmSensor → Sensor
  | .a => l.sensorA
  | .b => l.sensorB

/-- The lane with sensor `x` replaced. -/
def Lane.setSensor (l : Lane) (x : ArmSensor) (v : Sensor) : Lane :=
  match x with
  | .a => { l with sensorA := v }
  | .b => { l with sensorB := v }

/-- What the sequencer makes of a rising edge (R74). -/
inductive EdgeResult where
  | moved
  | implausible
  | forward
  | reverse
  deriving DecidableEq, Repr

/-- The window has ended before this event: a later event finds the sequencer IDLE (R74, R75, log entry 10, DEDUCED). -/
def windowOver (q : Sequencer) (elapsed : Nat) : Sequencer :=
  match q with
  | .idle => .idle
  | .aSeen mark => if mark + Config.rotationWindow < elapsed then .idle else .aSeen mark
  | .bSeen mark => if mark + Config.rotationWindow < elapsed then .idle else .bSeen mark

/-- The sequencer's table for a rising edge (R74). -/
def sequence (q : Sequencer) (x : ArmSensor) (elapsed : Nat) : Sequencer × EdgeResult :=
  match windowOver q elapsed, x with
  | .idle, .a => (.aSeen elapsed, .moved)
  | .idle, .b => (.bSeen elapsed, .moved)
  | .aSeen mark, .b => (.idle, if elapsed < mark + Config.coincidence then .implausible else .forward)
  | .aSeen _, .a => (.aSeen elapsed, .implausible)
  | .bSeen mark, .a => (.idle, if elapsed < mark + Config.coincidence then .implausible else .reverse)
  | .bSeen _, .b => (.bSeen elapsed, .implausible)

/-- A forward rotation is paired with the lane's head and state (R76). -/
def pairForward (c : LaneCtx) (l : Lane) : LaneOut :=
  if l.current = .observe then { lane := l, counts := [.passed c.k l.estimated] }
  else
    match l.current, l.inflight with
    | .self, e :: _ => if e.released then completeHead c l else tailgateAt c l
    | .attended, e :: _ => if e.released then completeHead c l else tailgateAt c l
    | _, _ => tailgateAt c l
where
  /-- A tailgate: its count event and its notice with the station time of the rotation (R76). -/
  tailgateAt (c : LaneCtx) (l : Lane) : LaneOut :=
    { lane := l, counts := [.tailgate c.k l.estimated], posts := [.tailgate c.k c.time] }

/-- A reverse rotation is counted and changes nothing else (R77). -/
def pairReverse (c : LaneCtx) (l : Lane) : LaneOut := { lane := l, counts := [.reverse c.k l.estimated] }

/-- A rising edge at a lane that takes edges: the timestamp, a new stuck episode, the sequencer, then the score, then the
pairing of a rotation (R73, R74, R76, R77, R79, R80). -/
def risingEdge (c : LaneCtx) (l : Lane) (x : ArmSensor) : LaneOut :=
  let v : Sensor :=
    { l.sensor x with level := true, lastRise := c.time, stuck := some { mark := c.elapsed, counted := false } }
  let r := sequence l.sequencer x c.elapsed
  let l1 := { l.setSensor x v with sequencer := r.1 }
  match r.2 with
  | .moved => { lane := l1 }
  | .implausible => raiseScore c l1 Config.implausibleScore
  | .forward => (lowerScore c l1).andThen (pairForward c)
  | .reverse => (lowerScore c l1).andThen (pairReverse c)

/-- A falling edge at a lane that takes edges: the timestamp, and the end of the stuck episode (R73, R80). -/
def fallingEdge (c : LaneCtx) (l : Lane) (x : ArmSensor) : Lane :=
  l.setSensor x { l.sensor x with level := false, lastFall := c.time, stuck := none }

/-- A sensor whose lane takes no edges still shows its level (R73, R82). -/
def Lane.setLevel (l : Lane) (x : ArmSensor) (level : Bool) : Lane := l.setSensor x { l.sensor x with level := level }

/-- The rotation window ends, 3,000 ms after the edge that started it: a partial push, which counts nothing (R74). -/
def endWindow (c : LaneCtx) (l : Lane) : Lane :=
  match l.sequencer with
  | .idle => l
  | .aSeen mark => if mark + Config.rotationWindow ≤ c.elapsed then { l with sequencer := .idle } else l
  | .bSeen mark => if mark + Config.rotationWindow ≤ c.elapsed then { l with sequencer := .idle } else l

/-- A sensor has stayed high for 20,000 ms of its episode: the score rises by 32, once for the episode (R80). -/
def stuckEvent (c : LaneCtx) (l : Lane) (x : ArmSensor) : LaneOut :=
  match (l.sensor x).stuck with
  | none => { lane := l }
  | some ep =>
    if ep.counted = false ∧ ep.mark + Config.stuckLimit ≤ c.elapsed then
      raiseScore c (l.setSensor x { l.sensor x with stuck := some { ep with counted := true } }) Config.stuckScore
    else { lane := l }

/-- The head's pass timeout has ended (R68, log entry 8, DEDUCED). -/
def timeoutOver (c : LaneCtx) (l : Lane) : Bool :=
  match l.inflight with
  | [] => false
  | e :: _ =>
    match e.release with
    | some r => decide (r.mark + r.timeout ≤ c.elapsed)
    | none => l.current == .attended && e.admissionOver c.elapsed

/-- The pass timeout of the head ends: the head balks (R68, R70). A timeout that has not ended, or is void, does nothing. -/
def timeoutEvent (c : LaneCtx) (l : Lane) : LaneOut :=
  if timeoutOver c l then balkHead c l else { lane := l }

/-- The release pulse ends: in TIMED mode, in SELF or ATTENDED, with L elapsed from the release mark of the RELEASED head,
the output is deasserted (R71). -/
def pulseEnd (c : LaneCtx) (mode : ReleaseMode) (l : Lane) : Lane :=
  match l.inflight with
  | [] => l
  | e :: _ =>
    match e.release with
    | none => l
    | some r =>
      if mode = .timed ∧ (l.current = .self ∨ l.current = .attended) ∧ r.mark + r.pulse ≤ c.elapsed then
        { l with output := false }
      else l

/-- A sensor whose lane begins to take edges: one found high begins a stuck episode then (R73, R80). -/
def Sensor.beginTaking (elapsed : Nat) (v : Sensor) : Sensor :=
  if v.level then { v with stuck := some { mark := elapsed, counted := false } } else v

/-- A lane begins taking edges, its sequencer IDLE (R73, R80). -/
def Lane.beginTaking (elapsed : Nat) (l : Lane) : Lane :=
  { l with
    sequencer := .idle
    sensorA := l.sensorA.beginTaking elapsed
    sensorB := l.sensorB.beginTaking elapsed }

/-- A lane that is no longer enabled stops taking edges: its sequencer returns to IDLE and its stuck timers stop (R73). -/
def Lane.stopTaking (l : Lane) : Lane :=
  { l with
    sequencer := .idle
    sensorA := { l.sensorA with stuck := none }
    sensorB := { l.sensorB with stuck := none } }

end Sys2Proof.Machine
end

