-- ==== Sys2Proof/Machine/Store.lean ====
section
/-! DEFINITION. The pass store: finding and changing a record, the records of a page, replacing a page (chapter 1), and the
used-day list's events (R5). -/

namespace Sys2Proof.Machine

/-! ## Records and pages -/

/-- The home page of a serial (R10). -/
def homePage (serial : Nat) : Nat := serial % Config.pageCount

/-- The record of a serial, if it is on its home page; serial 0 is on no page (R11). -/
def findRecord (store : List PassRecord) (serial : Nat) : Option PassRecord :=
  if serial = 0 then none else store.find? (fun r => r.ent.serial == serial)

/-- The store with the record of a serial changed. -/
def updateRecord (store : List PassRecord) (serial : Nat) (f : PassRecord → PassRecord) : List PassRecord :=
  store.map (fun r => if r.ent.serial = serial then f r else r)

/-- The records of a page, in ascending serial order (R10). -/
def pageRecords (store : List PassRecord) (page : Nat) : List PassRecord :=
  store.filter (fun r => homePage r.ent.serial == page)

/-- A record at its place in serial order; a record of the same serial is replaced. -/
def insertRecord (r : PassRecord) : List PassRecord → List PassRecord
  | [] => [r]
  | q :: rest =>
    if r.ent.serial < q.ent.serial then r :: q :: rest
    else if r.ent.serial = q.ent.serial then r :: rest
    else q :: insertRecord r rest

/-- The store with a page replaced whole (R13). -/
def replacePage (store : List PassRecord) (page : Nat) (records : List PassRecord) : List PassRecord :=
  records.foldr insertRecord (store.filter (fun r => homePage r.ent.serial != page))

/-- The records stand in strictly ascending serial order: the one form in which the list is kept (R10). -/
def ascending : List PassRecord → Bool
  | [] => true
  | [_] => true
  | a :: b :: rest => decide (a.ent.serial < b.ent.serial) && ascending (b :: rest)

/-- The record of the state's store (R11). -/
def State.record (s : State) (serial : Nat) : Option PassRecord := findRecord s.store serial

/-- The state with a record changed. -/
def State.setRecord (s : State) (serial : Nat) (f : PassRecord → PassRecord) : State :=
  { s with store := updateRecord s.store serial f }

/-! ## The used-day list -/

/-- The state of a day in a used-day list, if the day is used. -/
def dayState (used : List UsedDay) (day : Nat) : Option DayState :=
  (used.find? (fun u => u.day == day)).map UsedDay.state

/-- A new entry at its place in day order (R4). -/
def insertDay (u : UsedDay) : List UsedDay → List UsedDay
  | [] => [u]
  | v :: rest => if u.day < v.day then u :: v :: rest else v :: insertDay u rest

/-- The list with a day's state set. -/
def setDay (used : List UsedDay) (day : Nat) (st : DayState) : List UsedDay :=
  used.map (fun u => if u.day = day then { u with state := st } else u)

/-- The list with a day removed. -/
def removeDay (used : List UsedDay) (day : Nat) : List UsedDay := used.filter (fun u => u.day != day)

/-- ADMITTED in SELF or ATTENDED: a day not in the list is consumed as PROVISIONAL with holder count 1, a PROVISIONAL day's
holder count rises, a CONFIRMED day stays (R5, R43). The count has no bound here: R4 and R5 say it stays within 12, but R24 and
R25 let a deferred ADMIT be served before a later deferred VOID of the same day, and then a thirteenth holder is counted (log
entry 35, DESIGN CHOICE). -/
def useDayHeld (used : List UsedDay) (day : Nat) : List UsedDay :=
  match dayState used day with
  | none => insertDay { day := day, state := .provisional 1 } used
  | some (.provisional h) => setDay used day (.provisional (h + 1))
  | some .confirmed => used

/-- ADMITTED in OBSERVE: a day not in the list is consumed as CONFIRMED, a day in it stays (R5, R46). -/
def useDaySettled (used : List UsedDay) (day : Nat) : List UsedDay :=
  match dayState used day with
  | none => insertDay { day := day, state := .confirmed } used
  | some _ => used

/-- CONFIRM for a day: PROVISIONAL becomes CONFIRMED (R5, R50). -/
def confirmDay (used : List UsedDay) (day : Nat) : List UsedDay :=
  match dayState used day with
  | some (.provisional _) => setDay used day .confirmed
  | some .confirmed => used
  | none => used

/-- VOID for an entry that held a day: a PROVISIONAL day loses one holder and, without holders, leaves the list (R5, R53). -/
def voidDay (used : List UsedDay) (day : Nat) : List UsedDay :=
  match dayState used day with
  | some (.provisional h) => if h ≤ 1 then removeDay used day else setDay used day (.provisional (h - 1))
  | some .confirmed => used
  | none => used

/-- The start-up scan of one list: every PROVISIONAL day becomes CONFIRMED (R5, R176). -/
def confirmAll (used : List UsedDay) : List UsedDay := used.map (fun u => { u with state := .confirmed })

/-- Rides today after an admission on a day (R8, R43). -/
def rideOn (rides : Option RidesToday) (day : Nat) : RidesToday :=
  match rides with
  | some rt => if rt.day = day then { day := day, count := min Config.repeatMax (rt.count + 1) } else { day := day, count := 1 }
  | none => { day := day, count := 1 }

/-- The record with another usage part. -/
def PassRecord.withUsage (r : PassRecord) (u : Usage) : PassRecord := { r with usage := u }

/-- The start-up scan of one record (R176). -/
def PassRecord.scan (r : PassRecord) : PassRecord := r.withUsage { r.usage with used := confirmAll r.usage.used }

/-- The start-up scan: every page's PROVISIONAL days become CONFIRMED (R176). -/
def scanStore (store : List PassRecord) : List PassRecord := store.map PassRecord.scan

/-- The list holds a PROVISIONAL day (R131). -/
def hasProvisional (used : List UsedDay) : Bool :=
  used.any (fun u => match u.state with
    | .provisional _ => true
    | .confirmed => false)

/-- The record with the blocked flag set or cleared (R17). -/
def PassRecord.setBlocked (flag : Bool) (r : PassRecord) : PassRecord :=
  { r with ent := { r.ent with blocked := flag } }

/-! ## PASS READ, BLOCK and UNBLOCK -/

/-- PASS READ at its service (R16). -/
def servePassRead (s : State) (serial : Nat) : Served :=
  match s.record serial with
  | none => { state := s, code := .unknownPass, body := noRecordBytes serial }
  | some r => { state := s, code := .ok, body := recordBytes r }

/-- A staged entry with its blocked flag set or cleared; its mark stays (R17). -/
def Staged.setBlocked (flag : Bool) (e : Staged) : Staged := { e with ent := { e.ent with blocked := flag } }

/-- The staged entries with the flag of one serial set or cleared (R17). -/
def blockStaged (serial : Nat) (flag : Bool) (es : List Staged) : List Staged :=
  es.map (fun e => if e.ent.serial = serial then e.setBlocked flag else e)

/-- The buffer of a staging state that is not EMPTY (R122). -/
def Staging.buffer : Staging → Option Buffer
  | .empty => none
  | .opened b _ => some b
  | .committing b _ => some b

/-- The staging state with its staged entries changed; its state, page, owner and timer stay. -/
def Staging.mapEntries (f : List Staged → List Staged) : Staging → Staging
  | .empty => .empty
  | .opened b mark => .opened { b with entries := f b.entries } mark
  | .committing b w => .committing { b with entries := f b.entries } w

/-- The buffer is OPEN or COMMITTING for the serial's home page and holds an entry of the serial (R17). -/
def isStaged (st : Staging) (serial : Nat) : Bool :=
  match st.buffer with
  | none => false
  | some b => b.page == homePage serial && b.entries.any (fun e => e.ent.serial == serial)

/-- Which copies hold the serial: LIVE 0, STAGED 1, BOTH 2 (R17, R166). -/
def copiesCode (live staged : Bool) : Nat :=
  if live && staged then 2 else if staged then 1 else 0

/-- BLOCK or UNBLOCK at its service: the flag is written in the live record and in the staged entry, whichever hold the
serial, also while the page is committing (R17, R18; the body of UNKNOWN_PASS: log entry 30, DEDUCED). -/
def serveFlag (s : State) (serial : Nat) (flag : Bool) : Served :=
  let live := (s.record serial).isSome
  let staged := serial != 0 && isStaged s.staging serial
  if live || staged then
    { state :=
        { s with
          store := if live then updateRecord s.store serial (PassRecord.setBlocked flag) else s.store
          staging := if staged then s.staging.mapEntries (blockStaged serial flag) else s.staging }
      code := .ok
      body := beBytes 4 serial ++ boolByte flag ++ beBytes 1 (copiesCode live staged) }
  else { state := s, code := .unknownPass, body := beBytes 4 serial ++ zeros 2 }

end Sys2Proof.Machine
end

