-- ==== Sys2Proof/Machine/Admission.lean ====
section
/-! DEFINITION. Admission: the check order, the effects of an admission, the ADMIT response, and the CONFIRM and VOID tasks
(chapter 3). -/

namespace Sys2Proof.Machine

/-! ## The check order -/

/-- What the record decides of an ADMIT: refused, admitted as a re-ride, or admitted with the day consumed (R35, steps 3
to 10). -/
inductive Verdict where
  | refused (c : Code)
  | reride
  | consume
  deriving DecidableEq, Repr

/-- What an ADMIT reads once, at its service: t, d, m, and the lane's lift with its zone and passback interval (R34). -/
structure AdmitCtx where
  time : Nat
  day : Nat
  minute : Nat
  lift : LiftId
  zone : Nat
  passback : Nat
  deriving DecidableEq, Repr

/-- The readings for lane `k` (R34). -/
def State.admitCtx (s : State) (k : LaneId) : AdmitCtx :=
  let lift := s.profile.liftOf[k.val]
  { time := s.timebase.time
    day := s.opDay
    minute := s.minute
    lift := lift
    zone := s.profile.zoneOf[lift.val]
    passback := s.profile.passback[lift.val] }

/-- A zone mask is present and its flag for the lift's zone is clear (R35 step 6, R39). -/
def zoneRefuses (zones : Option Word16) (zone : Nat) : Bool :=
  match zones with
  | none => false
  | some m => !m.getLsbD zone

/-- An hour window is present and the minute of day lies outside it (R35 step 7, R39). -/
def hoursRefuse (hours : Option HourWindow) (minute : Nat) : Bool :=
  match hours with
  | none => false
  | some h => decide (minute < h.fromMinute) || decide (h.toMinute ≤ minute)

/-- The passback test (R35 step 8, R40). -/
def passbackRefuses (c : AdmitCtx) (stamp : Option Stamp) : Bool :=
  match stamp with
  | none => false
  | some st =>
    decide (0 < c.passback) && st.lift == c.lift && decide (st.time ≤ c.time) &&
      decide (c.time - st.time < c.passback * 1000)

/-- Steps 3 to 10 of the check order (R35 to R42). -/
def verdict (c : AdmitCtx) (rec : Option PassRecord) : Verdict :=
  match rec with
  | none => .refused .unknownPass
  | some r =>
    if r.ent.blocked then .refused .blocked
    else if c.day < r.ent.firstDay then .refused .notYetValid
    else if r.ent.lastDay < c.day then .refused .expired
    else if zoneRefuses r.ent.zones c.zone then .refused .zone
    else if hoursRefuse r.ent.hours c.minute then .refused .hours
    else if passbackRefuses c r.usage.stamp then .refused .passback
    else if (dayState r.usage.used c.day).isSome then .reride
    else if r.remaining = 0 then (if 0 < r.usage.refundedDays then .refused .refunded else .refused .noDaysLeft)
    else .consume

/-! ## Effects -/

/-- The stamp an admission writes (R43). -/
def AdmitCtx.stamp (c : AdmitCtx) : Stamp := { time := c.time, lift := c.lift }

/-- The usage part after an admission in SELF or ATTENDED (R43). -/
def Usage.admitHeld (u : Usage) (c : AdmitCtx) : Usage :=
  { u with stamp := some c.stamp, rides := some (rideOn u.rides c.day), used := useDayHeld u.used c.day }

/-- The usage part after an admission in OBSERVE (R46). -/
def Usage.admitSettled (u : Usage) (c : AdmitCtx) : Usage :=
  { u with stamp := some c.stamp, rides := some (rideOn u.rides c.day), used := useDaySettled u.used c.day }

/-- The day the entry holds: the admission's day, unless it is CONFIRMED already (R44). -/
def heldDayOf (u : Usage) (day : Nat) : Option Nat :=
  match dayState u.used day with
  | some .confirmed => none
  | some (.provisional _) => some day
  | none => some day

/-- What the entry notes of the record before the admission (R43, R44). -/
def admissionOf (c : AdmitCtx) (r : PassRecord) : Admission where
  serial := r.ent.serial
  stampSet := c.stamp
  heldDay := heldDayOf r.usage c.day
  priorStamp := r.usage.stamp
  priorRides := r.usage.rides

/-! ## The response -/

/-- The count of rides today reported for a day (R48). -/
def ridesFor (u : Usage) (day : Nat) : Nat :=
  match u.rides with
  | none => 0
  | some rt => if rt.day = day then rt.count else 0

/-- The ADMIT response body, 11 bytes (R48, R166). -/
def admitBytes (serial : Nat) (consumed : Bool) (q : EntryPosition) (day : Nat) (r : PassRecord) : List Byte :=
  beBytes 4 serial ++ boolByte consumed ++ beBytes 1 (positionCode q) ++ beBytes 1 (ridesFor r.usage day) ++
    beBytes 1 r.remaining ++ beBytes 2 r.ent.lastDay ++ beBytes 1 r.ent.classNo

/-- The ADMIT response where the record is not consulted (R48). -/
def admitBytesNone (serial : Nat) : List Byte := beBytes 4 serial ++ zeros 7

/-! ## Service -/

/-- An ADMITTED outcome at lane `k`: the record's effects, and in SELF and ATTENDED the entry that the lane takes in the
admission event (R43, R44, R46). -/
def admitAt (s : State) (k : LaneId) (c : AdmitCtx) (r : PassRecord) (consumed : Bool) : Served :=
  let l := s.lane k
  if l.current = .observe then
    let u := r.usage.admitSettled c
    { state := s.setRecord r.ent.serial (fun q => q.withUsage u)
      code := .admitted
      body := admitBytes r.ent.serial consumed .none c.day (r.withUsage u) }
  else
    let u := r.usage.admitHeld c
    let lc := s.laneCtx k
    { state :=
        (s.setRecord r.ent.serial (fun q => q.withUsage u)).applyLane k
          (joinEntry lc l (newEntry lc (.pass (admissionOf c r))))
      code := .admitted
      body := admitBytes r.ent.serial consumed (joinPosition l) c.day (r.withUsage u) }

/-- ADMIT at its service, for the port's own lane: steps 1 and 2 at the lane, then the record's verdict (R35, R36, R47,
R49). -/
def serveAdmitLane (s : State) (k : LaneId) (serial : Nat) : Served :=
  let l := s.lane k
  if l.current = .shut then { state := s, code := .laneShut, body := admitBytesNone serial }
  else if (l.current = .self ∨ l.current = .attended) ∧ Config.inFlightMax ≤ l.inflight.length then
    { state := s, code := .wait, body := admitBytesNone serial }
  else
    let c := s.admitCtx k
    match s.record serial with
    | none => { state := s.send (.refused k), code := .unknownPass, body := admitBytesNone serial }
    | some r =>
      match verdict c (some r) with
      | .refused code =>
        { state := s.send (.refused k), code := code, body := admitBytes serial false .none c.day r }
      | .reride => admitAt s k c r false
      | .consume => admitAt s k c r true

/-- ADMIT at its service. A lane port belongs to one lane; no ADMIT reaches the engine from a station port (R33). -/
def serveAdmit (s : State) (p : Port) (serial : Nat) : Served :=
  match p with
  | .lane k => serveAdmitLane s k serial
  | .station _ => { state := s, code := .notPermitted, body := [] }

/-! ## Tasks -/

/-- CONFIRM at its service: a PROVISIONAL held day becomes CONFIRMED, and every other in-flight entry of that serial and day
holds it no more (R50, R51). -/
def serveConfirm (s : State) (a : Admission) : State :=
  match s.record a.serial, a.heldDay with
  | some r, some d =>
    match dayState r.usage.used d with
    | some (.provisional _) =>
      { s.setRecord a.serial (fun q => q.withUsage { q.usage with used := confirmDay q.usage.used d }) with
        lanes := s.lanes.map (Lane.clearHeld a.serial d) }
    | some .confirmed => s
    | none => s
  | _, _ => s

/-- A VOID's effect on the usage part: stamp and rides today are restored together if the stamp is still the admission's,
and the held day loses a holder (R52, R53). -/
def Usage.void (u : Usage) (a : Admission) : Usage :=
  let u1 := if u.stamp = some a.stampSet then { u with stamp := a.priorStamp, rides := a.priorRides } else u
  match a.heldDay with
  | none => u1
  | some d => { u1 with used := voidDay u1.used d }

/-- VOID at its service (R52, R53, R54). -/
def serveVoid (s : State) (a : Admission) : State :=
  match s.record a.serial with
  | none => s
  | some _ => s.setRecord a.serial (fun q => q.withUsage (q.usage.void a))

/-- A task at its service (R21). -/
def serveTask (s : State) (t : Task) : State :=
  match t.kind with
  | .confirm => serveConfirm s t.pass
  | .void => serveVoid s t.pass

end Sys2Proof.Machine
end

