-- ==== Sys2Proof/Machine/Counting.lean ====
section
/-! DEFINITION. The count unit: count events, closings of the open interval, reading and releasing the log (chapter 5), and
the commands COUNT_EVENT, BOUNDARY_EVENT, LOG_READ and LOG_RELEASE. -/

namespace Sys2Proof.Machine

/-! ## Count events -/

/-- The counts of lane `k` changed. -/
def Interval.mapLane (i : Interval) (k : LaneId) (f : LaneCounts → LaneCounts) : Interval :=
  { i with lanes := i.lanes.set k.val (f i.lanes[k.val]) }

/-- A marked event sets the lane's ESTIMATED flag, an unmarked one leaves it (R85). -/
def LaneCounts.mark (c : LaneCounts) (estimated : Bool) : LaneCounts := { c with estimated := c.estimated || estimated }

/-- What a count event adds to the open interval (R85). The passed and the free event of one completion are counted together,
so that the free count never exceeds the passed count within an interval. -/
def Interval.add (i : Interval) : CountEvent → Interval
  | .passed k est => i.mapLane k (fun c => { c with passed := c.passed + 1 }.mark est)
  | .passedFree k est => i.mapLane k (fun c => { c with passed := c.passed + 1, free := c.free + 1 }.mark est)
  | .balk k est => i.mapLane k (fun c => { c with balked := c.balked + 1 }.mark est)
  | .tailgate k est => i.mapLane k (fun c => { c with tailgate := c.tailgate + 1 }.mark est)
  | .reverse k est => i.mapLane k (fun c => { c with reverse := c.reverse + 1 }.mark est)
  | .refused k => i.mapLane k (fun c => { c with refused := c.refused + 1 })
  | .refund amount =>
    { i with refunds := i.refunds + 1, refundAmount := i.refundAmount + BitVec.ofNat 48 amount }

/-- The lifetime passed totals after a count event: a passed event raises its lane's by 1 (R85, R98). -/
def addLifetime (totals : Vector Count32 6) : CountEvent → Vector Count32 6
  | .passed k _ => totals.set k.val (totals[k.val] + 1)
  | .passedFree k _ => totals.set k.val (totals[k.val] + 1)
  | .balk _ _ => totals
  | .tailgate _ _ => totals
  | .reverse _ _ => totals
  | .refused _ => totals
  | .refund _ => totals

/-- The count unit takes a count event: open interval and lifetime total in one write (R85, R86). -/
def CountUnit.take (u : CountUnit) (ev : CountEvent) : CountUnit :=
  { u with interval := u.interval.add ev, lifetime := addLifetime u.lifetime ev }

/-! ## Closings -/

/-- The length of a record in minutes: the span rounded up, 0 when the end is not after the start, saturating at 65,535
(R89). -/
def spanMinutes (start stop : Nat) : Nat := min 65535 ((stop - start + (Config.minuteMs - 1)) / Config.minuteMs)

/-- The record an interval closes into at an end instant, with the flag of the closing (R89, log entry 25, DEDUCED). -/
def Interval.close (i : Interval) (seq : Count32) (rollover stop : Nat) (flag : IntervalFlags) : LogRecord where
  seq := seq
  day := operatingDay rollover i.start
  startMinute := minuteOfDay i.start
  length := spanMinutes i.start stop
  flags := i.gathered.union flag
  lanes := i.lanes
  refunds := i.refunds
  refundAmount := i.refundAmount

/-- A closing: with room in the log the open interval becomes a record and a new one opens at `newStart`; on a full log it
is held, gathers EXTENDED and the closing's flag, and its next boundary is the first after `heldAt` (R88, R91). -/
def closeInterval (s : State) (stop : Nat) (flag : IntervalFlags) (newStart heldAt : Nat) : State :=
  let u := s.count
  let f := s.profile
  if u.log.length < Config.logMax then
    let r := u.interval.close u.nextSeq f.rollover stop flag
    { s with
      count :=
        { u with
          interval := Interval.fresh newStart (nextBoundaryFrom f.intervalMinutes f.rollover newStart)
          log := u.log ++ [r]
          nextSeq := u.nextSeq + 1 } }.post (.intervalClosed r.seq r.flags)
  else
    { s with
      count :=
        { u with
          interval :=
            { u.interval with
              gathered := (u.interval.gathered.union flag).union IntervalFlags.ofHeld
              nextBoundary := boundaryAfter f.intervalMinutes f.rollover heldAt } } }.post
      (.logFull u.log.length)

/-- A closing by a step of station time, from the time just before it to the time just after it (R92). -/
def closeStepped (s : State) (before after : Nat) : State :=
  closeInterval s before .ofStep (boundaryAtOrBefore s.profile.intervalMinutes s.profile.rollover after) after

/-- A closing by a cut, under the interval length and rollover minute now in the profile (R94). -/
def closeCut (s : State) : State :=
  let t := s.timebase.time
  closeInterval s t .ofCut (boundaryAtOrBefore s.profile.intervalMinutes s.profile.rollover t) t

/-- The start-up's closing of the interval found open: it ends at the last-known time (R95). -/
def closeInterrupted (s : State) : State :=
  let t := s.timebase.time
  closeInterval s s.timebase.lastKnown .ofStartup
    (boundaryAtOrBefore s.profile.intervalMinutes s.profile.rollover t) t

/-- The closing at a boundary that station time has reached (R87, R88). -/
def closeAtBoundary (s : State) : State :=
  let b := s.count.interval.nextBoundary
  closeInterval s b {} b b

/-! ## The log -/

/-- A sequence number `q` is at or after `n`: (q - n) mod 2^32 is below 2^31 (R90, R118). -/
def atOrAfter (q n : Count32) : Bool := decide ((q - n).toNat < 2 ^ 31)

/-- The oldest record's sequence number, or the next one when there is none (R96, R97). -/
def CountUnit.oldestSeq (u : CountUnit) : Count32 :=
  match u.log with
  | [] => u.nextSeq
  | r :: _ => r.seq

/-- The records a LOG READ carries (R96). -/
def CountUnit.readFrom (u : CountUnit) (n : Count32) : List LogRecord :=
  (u.log.dropWhile (fun r => !atOrAfter r.seq n)).take Config.logReadMax

/-- The totals of a LOG READ header: for each lane its lifetime passed total and its released total (R96, R166). -/
def CountUnit.totalsBytes (u : CountUnit) : List Byte :=
  (u.lifetime.toList.zip u.released.toList).flatMap (fun p => beBytes 4 p.1.toNat ++ beBytes 4 p.2.toNat)

/-- LOG READ at the count unit (R96). -/
def serveLogRead (s : State) (body : List Byte) : Served :=
  match oneSequence body with
  | none => { state := s, code := .badArgument, body := zeros 58 }
  | some n =>
    let u := s.count
    let rs := u.readFrom n
    { state := s
      code := .ok
      body :=
        beBytes 1 rs.length ++ beBytes 1 u.log.length ++ beBytes 4 u.oldestSeq.toNat ++ beBytes 4 u.nextSeq.toNat ++
          u.totalsBytes ++ rs.flatMap logBytes }

/-- The run of records a release removes: from the oldest, as long as `n` is at or after each (R97). -/
def releasedRun (log : List LogRecord) (n : Count32) : List LogRecord := log.takeWhile (fun r => atOrAfter n r.seq)

/-- The passed counts of lane `k` in a run of records, wrapping (R97). -/
def passedIn (k : LaneId) (rs : List LogRecord) : Count32 := rs.foldr (fun r acc => r.lanes[k.val].passed + acc) 0

/-- The count unit after a LOG RELEASE (R97, R98). -/
def CountUnit.release (u : CountUnit) (n : Count32) : CountUnit :=
  { u with
    log := u.log.dropWhile (fun r => atOrAfter n r.seq)
    released := Vector.ofFn (fun k : Fin 6 => u.released[k.val] + passedIn k (releasedRun u.log n)) }

/-- LOG RELEASE at the count unit (R97). -/
def serveLogRelease (s : State) (body : List Byte) : Served :=
  match oneSequence body with
  | none => { state := s, code := .badArgument, body := zeros 6 }
  | some n =>
    let u := s.count.release n
    { state := { s with count := u }
      code := .ok
      body := beBytes 1 (releasedRun s.count.log n).length ++ beBytes 1 u.log.length ++ beBytes 4 u.oldestSeq.toNat }

/-! ## The commands -/

/-- LOG_READ (R96). -/
def execLogRead (p : Port) (tag : Byte) (body : List Byte) (s : State) : Host.Outcome State Fault Refusal :=
  .next (s.requestUnit p .logRead tag (fun s1 => serveLogRead s1 body))

/-- LOG_RELEASE (R97). -/
def execLogRelease (p : Port) (tag : Byte) (body : List Byte) (s : State) : Host.Outcome State Fault Refusal :=
  .next (s.requestUnit p .logRelease tag (fun s1 => serveLogRelease s1 body))

/-- COUNT_EVENT: the count unit takes an event in flight, which then is in flight no more, so that each event sent is counted
once. An event that is not in flight is none that could reach the count unit: one that a device reset has dropped counts in no
interval (R85, R86, log entry 6, DESIGN CHOICE). -/
def execCountEvent (ev : CountEvent) (s : State) : Host.Outcome State Fault Refusal :=
  .next
    (if ev ∈ s.countsInFlight then
      { s with count := s.count.take ev, countsInFlight := s.countsInFlight.erase ev }
    else s)

/-- BOUNDARY_EVENT: taken when station time has reached the next boundary (R87, R88, R91). -/
def execBoundaryEvent (s : State) : Host.Outcome State Fault Refusal :=
  .next (if s.count.interval.nextBoundary ≤ s.timebase.time then closeAtBoundary s else s)

end Sys2Proof.Machine
end

