-- ==== Sys2Proof/Machine/Refunds.lean ====
section
/-! DEFINITION. The refund unit at the table engine: the tariff, the seven stages of the refund arithmetic, quoting and
committing, and the refund journal (chapter 6). -/

namespace Sys2Proof.Machine

/-! ## Tariff -/

/-- A class clamped as it is stored (R101). -/
def TariffClass.clamped (c : TariffClass) : TariffClass :=
  { c with
    feePermille := min 500 c.feePermille
    step := min 10000 (max 1 c.step)
    capPermille := min 1000 c.capPermille }

/-- TARIFF PUT at its service (R101, R103). -/
def serveTariffPut (s : State) (n : Fin 64) (c : TariffClass) : Served :=
  if s.refund.locked then { state := s, code := .locked, body := zeros 52 }
  else
    { state := { s with refund := { s.refund with tariff := s.refund.tariff.set n.val c.clamped } }
      code := .ok
      body := tariffBytes c.clamped }

/-- TARIFF READ at its service (R102). -/
def serveTariffRead (s : State) (n : Fin 64) : Served where
  state := s
  code := .ok
  body := tariffBytes s.refund.tariff[n.val] ++ boolByte s.refund.locked

/-- TARIFF LOCK at its service (R103). -/
def serveTariffLock (s : State) : Served where
  state := { s with refund := { s.refund with locked := true } }
  code := .ok
  body := boolByte true

/-! ## The arithmetic -/

/-- P(i), with P(0) taken as 0 (R100, R108). -/
def TariffClass.price (c : TariffClass) (i : Nat) : Nat := if i = 0 then 0 else c.prices.toList.getD (i - 1) 0

/-- The class of a record: that of its class field (R100, R105). -/
def State.tariffOf (s : State) (classNo : Nat) : TariffClass := s.refund.tariff.toList.getD classNo TariffClass.default

/-- The usable days ahead u (R106). -/
def usableDays (r : PassRecord) (day : Nat) : Nat :=
  if day < r.ent.firstDay then r.ent.window
  else if r.ent.lastDay < day then 0
  else if (dayState r.usage.used day).isSome then r.ent.lastDay - day
  else r.ent.lastDay - day + 1

/-- Stage 1: the refundable days k (R106). -/
def refundableDays (c : TariffClass) (r : PassRecord) (day : Nat) : Nat :=
  if c.lapsed then r.remaining else min r.remaining (usableDays r day)

/-- The figures of stages 3 to 7 (R115). -/
structure Figures where
  gross : Nat
  fee : Nat
  capLeft : Nat
  amount : Nat
  deriving DecidableEq, Repr

/-- Stage 3: the gross refund for j days, clamped at 0 (R108). -/
def grossRefund (c : TariffClass) (r : PassRecord) (j : Nat) : Nat :=
  ((r.ent.paid : Int) - (r.usage.refundedTotal : Int) -
    (c.price (r.ent.rideDays - r.usage.refundedDays - j) : Int)).toNat

/-- Stage 4: the fee, the larger of fee_min and the ceiling of the permille share (R109). -/
def refundFee (c : TariffClass) (gross : Nat) : Nat := max c.feeMin ((gross * c.feePermille + 999) / 1000)

/-- Stage 6: what the cap leaves (R110). -/
def capLeftOf (c : TariffClass) (r : PassRecord) : Nat :=
  r.ent.paid * c.capPermille / 1000 - r.usage.refundedTotal

/-- Stages 3 to 7 for j days (R108 to R111). -/
def figuresFor (c : TariffClass) (r : PassRecord) (j : Nat) : Figures :=
  let gross := grossRefund c r j
  let fee := refundFee c gross
  let capLeft := capLeftOf c r
  let net := min (gross - fee) capLeft
  { gross := gross, fee := fee, capLeft := capLeft, amount := net - net % c.step }

/-- Figures of an outcome that reports none (R115). -/
def Figures.none : Figures := { gross := 0, fee := 0, capLeft := 0, amount := 0 }

/-- The refund response body, 27 bytes (R115, R166). -/
def refundBytes (serial k j : Nat) (f : Figures) (seq : Count32) (refundedDays refundedTotal remaining : Nat) :
    List Byte :=
  beBytes 4 serial ++ beBytes 1 k ++ beBytes 1 j ++ beBytes 3 f.gross ++ beBytes 3 f.fee ++ beBytes 3 f.capLeft ++
    beBytes 3 f.amount ++ beBytes 4 seq.toNat ++ beBytes 1 refundedDays ++ beBytes 3 refundedTotal ++ beBytes 1 remaining

/-- The refund body for a record as it stands (R115). -/
def refundBody (r : PassRecord) (k j : Nat) (f : Figures) (seq : Count32) : List Byte :=
  refundBytes r.ent.serial k j f seq r.usage.refundedDays r.usage.refundedTotal r.remaining

/-- The checks that quote and commit share, up to the refundable days (R112, R113): the refusal, or the record with its
class and k. -/
def refundChecks (s : State) (serial : Nat) : Served ⊕ (PassRecord × TariffClass × Nat) :=
  match s.record serial with
  | none =>
    .inl { state := s, code := .unknownPass, body := refundBytes serial 0 0 Figures.none 0 0 0 0 }
  | some r =>
    let c := s.tariffOf r.ent.classNo
    let k := refundableDays c r s.opDay
    if r.ent.blocked then .inl { state := s, code := .blocked, body := refundBody r 0 0 Figures.none 0 }
    else if s.refund.locked = false then
      .inl { state := s, code := .notLocked, body := refundBody r 0 0 Figures.none 0 }
    else if c.present = false then .inl { state := s, code := .noTariff, body := refundBody r 0 0 Figures.none 0 }
    else if k = 0 then .inl { state := s, code := .nothingRefundable, body := refundBody r 0 0 Figures.none 0 }
    else .inr (r, c, k)

/-- Stage 2 for a quote (R107). -/
def quotedDays (asked k : Nat) : Nat := if asked = 0 then k else min asked k

/-- REFUND QUOTE at its service (R112). -/
def serveQuote (s : State) (serial asked : Nat) : Served :=
  match refundChecks s serial with
  | .inl refusal => refusal
  | .inr (r, c, k) =>
    let j := quotedDays asked k
    { state := s, code := .ok, body := refundBody r k j (figuresFor c r j) 0 }

/-- The record after a refund of j days and an amount (R6, R114). -/
def PassRecord.refund (j amount : Nat) (r : PassRecord) : PassRecord :=
  r.withUsage
    { r.usage with refundedDays := r.usage.refundedDays + j, refundedTotal := r.usage.refundedTotal + amount }

/-- The journal record of a refund (R117). -/
def journalRecord (s : State) (p : Port) (r : PassRecord) (j amount : Nat) : JournalRecord where
  seq := s.refund.nextSeq
  serial := r.ent.serial
  classNo := r.ent.classNo
  days := j
  amount := amount
  day := s.opDay
  time := s.timebase.time
  port := p

/-- The posts of an accepted commit, in the order R114 lists them (R114, R119). -/
def refundPosts (seq : Count32) (serial amount journalCount : Nat) : List NoticeDetail :=
  .refundCommitted seq serial amount ::
    (if Config.journalHigh ≤ journalCount then [.journalHigh journalCount] else [])

/-- The refund is made: record, journal, count event and notices in one piece of work (R114, R118, R119). -/
def makeRefund (s : State) (p : Port) (r : PassRecord) (j amount : Nat) : State :=
  let journal := s.refund.journal ++ [journalRecord s p r j amount]
  let s1 : State :=
    { s.setRecord r.ent.serial (PassRecord.refund j amount) with
      refund := { s.refund with journal := journal, nextSeq := s.refund.nextSeq + 1 } }
  (s1.send (.refund amount)).postAll (refundPosts s.refund.nextSeq r.ent.serial amount journal.length)

/-- REFUND COMMIT at its service (R113, R114, R115). -/
def serveCommit (s : State) (p : Port) (serial days expected : Nat) : Served :=
  match refundChecks s serial with
  | .inl refusal => refusal
  | .inr (r, c, k) =>
    let j := min days k
    let f := figuresFor c r j
    let refuse (code : Code) : Served := { state := s, code := code, body := refundBody r k j f 0 }
    if Config.journalMax ≤ s.refund.journal.length then refuse .journalFull
    else if k < days ∨ f.amount ≠ expected then refuse .stale
    else if f.amount = 0 then refuse .zeroRefund
    else
      { state := makeRefund s p r j f.amount
        code := .ok
        body := refundBody (r.refund j f.amount) k j f s.refund.nextSeq }

/-! ## The journal -/

/-- The oldest record's sequence number, or the next one when there is none: so R120 says for JOURNAL READ, and the model sends it
for JOURNAL RELEASE too (log entry 37, DEDUCED). -/
def RefundUnit.oldestSeq (u : RefundUnit) : Count32 :=
  match u.journal with
  | [] => u.nextSeq
  | j :: _ => j.seq

/-- The records a JOURNAL READ carries (R120). -/
def RefundUnit.readFrom (u : RefundUnit) (n : Count32) : List JournalRecord :=
  (u.journal.dropWhile (fun j => !atOrAfter j.seq n)).take Config.journalReadMax

/-- JOURNAL READ at its service (R120). -/
def serveJournalRead (s : State) (n : Count32) : Served :=
  let u := s.refund
  let js := u.readFrom n
  { state := s
    code := .ok
    body :=
      beBytes 1 js.length ++ beBytes 2 u.journal.length ++ beBytes 4 u.oldestSeq.toNat ++ beBytes 4 u.nextSeq.toNat ++
        js.flatMap journalBytes }

/-- The journal after a release up to `n` (R120). -/
def RefundUnit.release (u : RefundUnit) (n : Count32) : RefundUnit :=
  { u with journal := u.journal.dropWhile (fun j => atOrAfter n j.seq) }

/-- JOURNAL RELEASE at its service (R120). For a journal left empty it reports the next sequence number as the oldest (log entry
37, DEDUCED). -/
def serveJournalRelease (s : State) (n : Count32) : Served :=
  let u := s.refund.release n
  { state := { s with refund := u }
    code := .ok
    body :=
      beBytes 2 (s.refund.journal.length - u.journal.length) ++ beBytes 2 u.journal.length ++
        beBytes 4 u.oldestSeq.toNat }

end Sys2Proof.Machine
end

