-- ==== Sys2Proof/Machine/StagingBuffer.lean ====
section
/-! DEFINITION. The staging buffer: opening, editing, reading and abandoning a page, the conflict check and the beginning of
a page write, its completion, and the idle timer (chapter 7), and the commands WRITE_COMPLETION and IDLE_TIMER_END. -/

namespace Sys2Proof.Machine

/-! ## Opening and editing -/

/-- A live record's entitlement as PAGE OPEN stages it (R124). -/
def copyStaged (r : PassRecord) : Staged := { ent := r.ent, mark := .copied }

/-- PAGE OPEN at its service (R124). The engine serves it for station ports only. -/
def servePageOpen (s : State) (i : StationId) (page : Nat) : Served :=
  match s.staging with
  | .empty =>
    let entries := (pageRecords s.store page).map copyStaged
    { state := { s with staging := .opened { page := page, owner := i, entries := entries } s.elapsed }
      code := .ok
      body := beBytes 2 page ++ beBytes 1 entries.length }
  | .opened _ _ => { state := s, code := .stagingHeld, body := zeros 3 }
  | .committing _ _ => { state := s, code := .stagingHeld, body := zeros 3 }

/-- The checks of the requests that act on an open buffer: the refusal, or the buffer of its owner (R123). -/
def openBuffer (st : Staging) (i : StationId) : Code ⊕ Buffer :=
  match st with
  | .empty => .inl .stagingEmpty
  | .committing _ _ => .inl .committing
  | .opened b _ => if b.owner = i then .inr b else .inl .stagingHeld

/-- A staged entry at its place in serial order; one of the same serial is replaced whole (R125). -/
def insertStaged (e : Staged) : List Staged → List Staged
  | [] => [e]
  | q :: rest =>
    if e.ent.serial < q.ent.serial then e :: q :: rest
    else if e.ent.serial = q.ent.serial then e :: rest
    else q :: insertStaged e rest

/-- The staged entries hold a serial. -/
def holdsSerial (es : List Staged) (serial : Nat) : Bool := es.any (fun e => e.ent.serial == serial)

/-- The position of a serial in the staged entries, counted from 0 (R125). -/
def stagedPosition (es : List Staged) (serial : Nat) : Nat := es.findIdx (fun e => e.ent.serial == serial)

/-- The state with the owner's open buffer replaced, its idle timer started anew (R123, R130). -/
def State.restage (s : State) (b : Buffer) : State := { s with staging := .opened b s.elapsed }

/-- The mark RECORD PUT gives a serial (R122, R125). -/
def putMark (s : State) (serial : Nat) : StagedMark := if (s.record serial).isSome then .replaced else .new

/-- RECORD PUT at its service (R123, R125; the bodies of its refusals: log entry 30, DEDUCED). -/
def serveRecordPut (s : State) (i : StationId) (e : Entitlement) : Served :=
  match openBuffer s.staging i with
  | .inl refusal => { state := s, code := refusal, body := zeros 9 }
  | .inr b =>
    let refuse (code : Code) : Served :=
      { state := s.restage b
        code := code
        body := beBytes 4 e.serial ++ zeros 2 ++ beBytes 1 b.entries.length ++ beBytes 2 b.page }
    if homePage e.serial ≠ b.page then refuse .wrongPage
    else if holdsSerial b.entries e.serial = false ∧ Config.pageRecords ≤ b.entries.length then refuse .pageFull
    else
      let mark := putMark s e.serial
      let entries := insertStaged { ent := e, mark := mark } b.entries
      { state := s.restage { b with entries := entries }
        code := .ok
        body :=
          beBytes 4 e.serial ++ beBytes 1 (markCode mark) ++ beBytes 1 (stagedPosition entries e.serial) ++
            beBytes 1 entries.length ++ beBytes 2 b.page }

/-- RECORD DROP at its service (R123, R126; the body of NOT_FOUND: log entry 30, DEDUCED). -/
def serveRecordDrop (s : State) (i : StationId) (serial : Nat) : Served :=
  match openBuffer s.staging i with
  | .inl refusal => { state := s, code := refusal, body := zeros 5 }
  | .inr b =>
    let entries := b.entries.filter (fun e => e.ent.serial != serial)
    { state := s.restage { b with entries := entries }
      code := if holdsSerial b.entries serial then .ok else .notFound
      body := beBytes 4 serial ++ beBytes 1 entries.length }

/-- The live records of the page that have no staged entry: those a commit drops (R122, R127). -/
def droppedRecords (store : List PassRecord) (b : Buffer) : List PassRecord :=
  (pageRecords store b.page).filter (fun r => !holdsSerial b.entries r.ent.serial)

/-- A staged entry in a STAGING READ response: its entitlement part and its mark (R166). -/
def stagedBytes (e : Staged) : List Byte := entitlementBytes e.ent ++ beBytes 1 (markCode e.mark)

/-- The whole seconds left before an idle timer would end (R127, R130). -/
def secondsLeft (mark elapsed : Nat) : Nat := (mark + Config.idleTimer - elapsed) / 1000

/-- The body of a STAGING READ response for a buffer that is not EMPTY (R127). -/
def stagingBytes (store : List PassRecord) (stateCode : Nat) (b : Buffer) (seconds position : Nat) : List Byte :=
  beBytes 1 stateCode ++ beBytes 2 b.page ++ portBytes (.station b.owner) ++ beBytes 1 b.entries.length ++
    beBytes 1 (droppedRecords store b).length ++ beBytes 1 seconds ++
    ((b.entries.drop position).take Config.stagingReadMax).flatMap stagedBytes

/-- STAGING READ at its service: the owner's read of an OPEN buffer restarts the idle timer (R127, R130, log entry 23, DEDUCED).
In EMPTY the page and the owner are sent as zero bytes, without presence flags in any state (R166, log entry 38, DEDUCED). -/
def serveStagingRead (s : State) (i : StationId) (position : Nat) : Served :=
  match s.staging with
  | .empty => { state := s, code := .ok, body := zeros 7 }
  | .opened b mark =>
    let mark' := if b.owner = i then s.elapsed else mark
    { state := { s with staging := .opened b mark' }
      code := .ok
      body := stagingBytes s.store 1 b (secondsLeft mark' s.elapsed) position }
  | .committing b _ => { state := s, code := .ok, body := stagingBytes s.store 2 b 0 position }

/-- PAGE ABANDON at its service (R123, R128). -/
def servePageAbandon (s : State) (i : StationId) : Served :=
  match openBuffer s.staging i with
  | .inl refusal => { state := s, code := refusal, body := zeros 2 }
  | .inr b =>
    { state := { s with staging := .empty }.post (.staging b.page .abandoned)
      code := .ok
      body := beBytes 2 b.page }

/-! ## Committing -/

/-- The conflict of a REPLACED entry with its live usage, in the order of the table (R131). -/
def replacedConflict (u : Usage) (e : Entitlement) : Option ConflictReason :=
  if e.rideDays < u.used.length + u.refundedDays then some .days
  else if u.used.any (fun d => decide (d.day < e.firstDay) || decide (e.lastDay < d.day)) then some .window
  else if e.paid < u.refundedTotal then some .paid
  else none

/-- The conflict of one live record of the page: with its staged entry where that is REPLACED, or as a dropped record
(R131). A COPIED entry has none; a NEW entry has no live record. -/
def recordConflict (es : List Staged) (r : PassRecord) : Option ConflictReason :=
  match es.find? (fun e => e.ent.serial == r.ent.serial) with
  | some e =>
    match e.mark with
    | .replaced => replacedConflict r.usage e.ent
    | .copied => none
    | .new => none
  | none => if hasProvisional r.usage.used then some .provisional else none

/-- The first conflict in ascending serial order: the serial and the reason (R131). -/
def firstConflict (es : List Staged) : List PassRecord → Option (Nat × ConflictReason)
  | [] => none
  | r :: rest =>
    match recordConflict es r with
    | some reason => some (r.ent.serial, reason)
    | none => firstConflict es rest

/-- The usage part a staged entry's record takes: the live record's, and an empty one for a NEW entry (R133). -/
def carriedUsage (store : List PassRecord) (e : Staged) : Usage :=
  match e.mark with
  | .new => {}
  | .copied => (findRecord store e.ent.serial).elim {} PassRecord.usage
  | .replaced => (findRecord store e.ent.serial).elim {} PassRecord.usage

/-- The page the write builds from the staged entries, with the live usage as it stands when the write begins (R133). -/
def buildPage (store : List PassRecord) (es : List Staged) : List PassRecord :=
  es.map (fun e => { ent := e.ent, usage := carriedUsage store e })

/-- What the service of a PAGE COMMIT comes to: an answer, or a write that has begun and no answer yet (R19, R131, R133). -/
inductive CommitResult where
  | answered (r : Served)
  | begun (s : State)

/-- The state when a commit's write begins (R133). -/
def beginWrite (s : State) (b : Buffer) : State :=
  { s with staging := .committing b { image := buildPage s.store b.entries, disowned := false } }

/-- The body of a CONFLICT response: serial and reason, the other fields of the kind 0 (R131, R166). -/
def conflictBytes (serial : Nat) (reason : ConflictReason) : List Byte :=
  beBytes 4 serial ++ beBytes 1 (conflictCode reason) ++ zeros 7

/-- PAGE COMMIT at its service (R123, R131, R133). -/
def serveCommitPage (s : State) (i : StationId) : CommitResult :=
  match openBuffer s.staging i with
  | .inl refusal => .answered { state := s, code := refusal, body := zeros 12 }
  | .inr b =>
    match firstConflict b.entries (pageRecords s.store b.page) with
    | some (serial, reason) =>
      .answered { state := s.restage b, code := .conflict, body := conflictBytes serial reason }
    | none => .begun (beginWrite s b)

/-! ## The completion of the write -/

/-- The blocked flag of a record of the new page is that of its staged entry at the completion (R18, R133). -/
def withStagedFlag (es : List Staged) (r : PassRecord) : PassRecord :=
  match es.find? (fun e => e.ent.serial == r.ent.serial) with
  | some e => r.setBlocked e.ent.blocked
  | none => r

/-- How many entries carry a mark. -/
def countMark (es : List Staged) (m : StagedMark) : Nat := (es.filter (fun e => e.mark == m)).length

/-- The body of the OK response of a PAGE COMMIT (R135); the fields of a CONFLICT stand before it as 0 (R166). -/
def committedBytes (store : List PassRecord) (b : Buffer) : List Byte :=
  zeros 5 ++ beBytes 2 b.page ++ beBytes 1 b.entries.length ++ beBytes 1 (countMark b.entries .copied) ++
    beBytes 1 (countMark b.entries .replaced) ++ beBytes 1 (countMark b.entries .new) ++
    beBytes 1 (droppedRecords store b).length

/-- The body of a WRITE_FAILED response (R136). -/
def failedBytes (b : Buffer) : List Byte := zeros 5 ++ beBytes 2 b.page ++ zeros 5

/-- The owner's response of a commit, unless its port has been reset (R26, R137). -/
def State.answerCommit (s : State) (b : Buffer) (w : PageWrite) (code : Code) (body : List Byte) : State :=
  if w.disowned then s else s.respond (.station b.owner) code body

/-- Work left in place for the busy page becomes eligible (R24, R26). -/
def Engine.unleave (e : Engine) : Engine :=
  { e with
    tasks := e.tasks.map (fun t => { t with left := false })
    pendingSet := e.pendingSet.map (fun r => { r with left := false }) }

/-- The completion with success (R135). -/
def completeWrite (s : State) (b : Buffer) (w : PageWrite) : State :=
  let body := committedBytes s.store b
  let s1 : State :=
    { s with
      store := replacePage s.store b.page (w.image.map (withStagedFlag b.entries))
      staging := .empty
      engine := s.engine.unleave }
  (s1.answerCommit b w .ok body).post (.staging b.page .committed)

/-- The completion with verify failure: the page is kept, and the buffer is OPEN again, or EMPTY when its owner's port was
reset during the write (R136, R137). -/
def failWrite (s : State) (b : Buffer) (w : PageWrite) : State :=
  let s1 : State :=
    { s with
      staging := if w.disowned then .empty else .opened b s.elapsed
      engine := s.engine.unleave }
  (s1.answerCommit b w .writeFailed (failedBytes b)).post (.staging b.page .failed)

/-- WRITE_COMPLETION: the page write under way ends (R26, R135, R136, log entry 32, DEDUCED). -/
def execWriteCompletion (result : WriteResult) (s : State) : Host.Outcome State Fault Refusal :=
  .next
    (match s.staging with
      | .committing b w =>
        match result with
        | .success => completeWrite s b w
        | .verifyFailure => failWrite s b w
      | .empty => s
      | .opened _ _ => s)

/-- IDLE_TIMER_END: 120,000 ms have elapsed from the last start of the timer with the buffer OPEN (R130). -/
def execIdleTimerEnd (s : State) : Host.Outcome State Fault Refusal :=
  .next
    (match s.staging with
      | .opened b mark =>
        if mark + Config.idleTimer ≤ s.elapsed then { s with staging := .empty }.post (.staging b.page .abandoned) else s
      | .empty => s
      | .committing _ _ => s)

end Sys2Proof.Machine
end

