-- ==== Sys2Proof/Machine/Timebase.lean ====
section
/-! DEFINITION. The timebase: references, the running of station time, slewing, the day change (chapter 8), and the commands
TIME_REFERENCE, READ_TIME, RUNNING_OF_STATION_TIME, SLEW_TICK, REFERENCE_AGE_EXPIRY, LAST_KNOWN_WRITE and DAY_CHANGE. -/

namespace Sys2Proof.Machine

/-! ## Day change -/

/-- A day change: the tariff lock clears, DAY_ROLLOVER is posted, the stored current day is written (R104, R151). -/
def dayChangeTo (s : State) (d : Nat) : State :=
  { s with
    refund := { s.refund with locked := false }
    timebase := { s.timebase with currentDay := d } }.post (.dayRollover d)

/-- The derived operating day differs from the stored current day, in LOCKED or FREE (R151). -/
def State.dayDue (s : State) : Bool := s.timebase.status != .unset && s.derivedDay != s.timebase.currentDay

/-- A day change that is due takes place (R151). -/
def settleDay (s : State) : State := if s.dayDue then dayChangeTo s s.derivedDay else s

/-! ## References -/

/-- The part every accepted reference has: state LOCKED, reference age 0, the reference mark at t after the event (R142,
R144 to R146). -/
def Timebase.accept (b : Timebase) : Timebase :=
  { b with status := .locked, refAge := some 0, refMark := some b.time }

/-- Station time set to a reference, with the pending correction cleared and the last-known time written; the fraction and
the trim are kept (R144, R146, R152). -/
def Timebase.setTime (b : Timebase) (t : Nat) : Timebase :=
  { b with time := t, correction := 0, lastKnown := t }

/-- A pending correction to be slewed, counted from this event (R141, R145). -/
def Timebase.slewBy (b : Timebase) (e : Int) (elapsed : Nat) : Timebase :=
  { b with correction := e, slewDue := elapsed + Config.slewPeriod }

/-- A value clamped to a range around 0 (R139, R145, R173). -/
def clampTrim (v : Int) : Int := max (-Config.trimMax) (min Config.trimMax v)

/-- The trim after a slewed reference: half the rate error that `e` shows over the span since the last reference, when that
span is at least 600,000 ms (R145). -/
def tunedTrim (b : Timebase) (e : Int) : Int :=
  match b.refMark with
  | none => b.trim
  | some mark =>
    let span : Int := (b.time : Int) - (mark : Int)
    if (Config.trimSpan : Int) ≤ span then clampTrim (b.trim + (e * 1000000).tdiv (span * 2)) else b.trim

/-- A reference accepted in UNSET (R144): time is set, or a small backward offset is left to slewing; TIMEBASE is posted, the
count unit takes a step event, and the day is compared with the stored one. -/
def setReference (s : State) (tRef : Nat) (e : Int) : State :=
  let before := s.timebase.time
  let b : Timebase :=
    if -Config.slewRange ≤ e ∧ e < 0 then
      { s.timebase.slewBy e s.elapsed with lastKnown := before }
    else s.timebase.setTime tRef
  let s1 := { s with timebase := b.accept }.post (.timebase .locked true)
  settleDay (closeStepped s1 before s1.timebase.time)

/-- A reference slewed in LOCKED or FREE (R145). -/
def slewReference (s : State) (e : Int) : State :=
  let b := { s.timebase with trim := tunedTrim s.timebase e }.slewBy e s.elapsed
  let s1 := { s with timebase := b.accept }
  if s.timebase.status = .free then s1.post (.timebase .locked false) else s1

/-- A step of station time in LOCKED or FREE, forward or forced backward (R146; the order of the posts of different blocks: log
entry 33, DESIGN CHOICE). -/
def stepReference (s : State) (tRef : Nat) : State :=
  let before := s.timebase.time
  let s1 := { s with timebase := (s.timebase.setTime tRef).accept }
  (settleDay (closeStepped s1 before tRef)).post (.timebase .locked true)

/-- The case of a reference from its offset, its force mark and the state (R143, R144, R147). -/
def referenceCase (status : TimebaseStatus) (e : Int) (force : Bool) : ReferenceCase :=
  if e < -Config.slewRange ∧ force = false then .refused
  else if status = .unset then .set
  else if e < -Config.slewRange then .forced
  else if e ≤ Config.slewRange then .slew
  else .step

/-- The timebase after a reference of a case. -/
def applyReference (s : State) (tRef : Nat) (e : Int) : ReferenceCase → State
  | .set => setReference s tRef e
  | .slew => slewReference s e
  | .step => stepReference s tRef
  | .forced => stepReference s tRef
  | .refused => s

/-- TIME REFERENCE at the timebase (R143, R148, log entry 22, DEDUCED). -/
def serveReference (s : State) (body : List Byte) : Served :=
  match referenceBody body with
  | none => { state := s, code := .badArgument, body := referenceBytes 0 0 s }
  | some (tRef, force) =>
    let e : Int := (tRef : Int) - (s.timebase.time : Int)
    let cse := referenceCase s.timebase.status e force
    let s1 := applyReference s tRef e cse
    { state := s1
      code := if cse = .refused then .timeBackward else .ok
      body := referenceBytes (caseCode cse) e s1 }

/-- READ TIME at the timebase (R149). -/
def serveReadTime (s : State) (body : List Byte) : Served :=
  if body = [] then { state := s, code := .ok, body := timeBytes s }
  else { state := s, code := .badArgument, body := zeros 26 }

/-! ## The running of time -/

/-- Station time after some rises, saturating at 2^40 - 1 (R140). -/
def risen (t rises : Nat) : Nat := min Config.timeMax (t + rises)

/-- One millisecond of elapsed time at the timebase: the fraction gains 1,000,000 + trim, station time rises by the whole
milliseconds in it less those that slewing withholds, and a running reference age rises (R140, R141, R142). -/
def Timebase.tick (b : Timebase) : Timebase :=
  let total := b.fraction + (1000000 + b.trim).toNat
  let rises := total / 1000000
  { b with
    fraction := total % 1000000
    time := risen b.time (rises - b.withheld)
    withheld := b.withheld - rises
    refAge := b.refAge.map (· + 1) }

/-- One step of slewing (R141). -/
def Timebase.slew (b : Timebase) : Timebase :=
  if 0 < b.correction then
    { b with time := risen b.time 1, correction := b.correction - 1, slewDue := b.slewDue + Config.slewPeriod }
  else
    { b with withheld := b.withheld + 1, correction := b.correction + 1, slewDue := b.slewDue + Config.slewPeriod }

/-! ## The commands -/

/-- TIME_REFERENCE (R143 to R148). -/
def execTimeReference (p : Port) (tag : Byte) (body : List Byte) (s : State) : Host.Outcome State Fault Refusal :=
  .next (s.requestUnit p .timeReference tag (fun s1 => serveReference s1 body))

/-- READ_TIME (R149). -/
def execReadTime (p : Port) (tag : Byte) (body : List Byte) (s : State) : Host.Outcome State Fault Refusal :=
  .next (s.requestUnit p .readTime tag (fun s1 => serveReadTime s1 body))

/-- RUNNING_OF_STATION_TIME: one millisecond of elapsed time (R140, log entry 9, DEDUCED). -/
def execRunning (s : State) : Host.Outcome State Fault Refusal :=
  .next { s with elapsed := s.elapsed + 1, timebase := s.timebase.tick }

/-- SLEW_TICK: 100 ms of elapsed time have run with a correction pending (R141). -/
def execSlewTick (s : State) : Host.Outcome State Fault Refusal :=
  .next
    (if s.timebase.correction ≠ 0 ∧ s.timebase.slewDue ≤ s.elapsed then { s with timebase := s.timebase.slew } else s)

/-- The reference age has reached 21,600,000 ms (R142). -/
def ageOver (b : Timebase) : Bool :=
  match b.refAge with
  | none => false
  | some age => decide (Config.freeAge ≤ age)

/-- REFERENCE_AGE_EXPIRY: LOCKED becomes FREE, and TIMEBASE is posted (R142). -/
def execReferenceAgeExpiry (s : State) : Host.Outcome State Fault Refusal :=
  .next
    (if s.timebase.status = .locked ∧ ageOver s.timebase = true then
      { s with timebase := { s.timebase with status := .free } }.post (.timebase .free false)
    else s)

/-- LAST_KNOWN_WRITE: at every 60,000 ms of elapsed time station time is written to the last-known time (R152). -/
def execLastKnownWrite (s : State) : Host.Outcome State Fault Refusal :=
  .next
    (if s.timebase.lastKnownDue ≤ s.elapsed then
      { s with
        timebase :=
          { s.timebase with
            lastKnown := s.timebase.time
            lastKnownDue := s.timebase.lastKnownDue + Config.lastKnownPeriod } }
    else s)

/-- DAY_CHANGE: the derived operating day differs from the stored one (R104, R151). -/
def execDayChange (s : State) : Host.Outcome State Fault Refusal := .next (settleDay s)

end Sys2Proof.Machine
end

