-- ==== Sys2Proof/Machine/EngineWork.lean ====
section
/-! DEFINITION. The table engine: which page a piece of work needs, the service of a request or a task, the arbitration
policies, and one taking of work (chapter 2), and the commands of the engine's request kinds and ENGINE_TAKE_WORK. -/

namespace Sys2Proof.Machine

/-! ## Pages -/

/-- The home page of a serial, but for serial 0, which is on no page (R11, R19). -/
def pageOfSerial (serial : Nat) : Option Nat := if serial = 0 then none else some (homePage serial)

/-- The page whose busy mark makes the engine defer a request (R19). BLOCK and UNBLOCK are served while it is busy (R18). -/
def EngineOp.needs : EngineOp → Option Nat
  | .admitPass serial => pageOfSerial serial
  | .passRead serial => pageOfSerial serial
  | .refundQuote serial _ => pageOfSerial serial
  | .refundCommit serial _ _ => pageOfSerial serial
  | .block _ => none
  | .unblock _ => none
  | .pageOpen _ => none
  | .recordPut _ => none
  | .recordDrop _ => none
  | .stagingRead _ => none
  | .pageCommit => none
  | .pageAbandon => none
  | .tariffPut _ _ => none
  | .tariffRead _ => none
  | .tariffLock => none
  | .journalRead _ => none
  | .journalRelease _ => none

/-- The page named is the busy page (R14, R24). -/
def State.meetsBusy (s : State) (page : Option Nat) : Bool := page.isSome && page == s.pageBusy

/-! ## Service -/

/-- A service for the owner or any other station port; no such request reaches the engine from a lane port (R158). -/
def atStation (s : State) (p : Port) (serve : StationId → CommitResult) : CommitResult :=
  match p with
  | .station i => serve i
  | .lane _ => .answered { state := s, code := .notPermitted, body := [] }

/-- A request at its service (R19). -/
def serveOp (s : State) (p : Port) : EngineOp → CommitResult
  | .admitPass serial => .answered (serveAdmit s p serial)
  | .passRead serial => .answered (servePassRead s serial)
  | .block serial => .answered (serveFlag s serial true)
  | .unblock serial => .answered (serveFlag s serial false)
  | .pageOpen page => atStation s p (fun i => .answered (servePageOpen s i page))
  | .recordPut e => atStation s p (fun i => .answered (serveRecordPut s i e))
  | .recordDrop serial => atStation s p (fun i => .answered (serveRecordDrop s i serial))
  | .stagingRead position => atStation s p (fun i => .answered (serveStagingRead s i position))
  | .pageCommit => atStation s p (fun i => serveCommitPage s i)
  | .pageAbandon => atStation s p (fun i => .answered (servePageAbandon s i))
  | .tariffPut c cls => .answered (serveTariffPut s c cls)
  | .tariffRead c => .answered (serveTariffRead s c)
  | .tariffLock => .answered (serveTariffLock s)
  | .refundQuote serial asked => .answered (serveQuote s serial asked)
  | .refundCommit serial days expected => .answered (serveCommit s p serial days expected)
  | .journalRead n => .answered (serveJournalRead s n)
  | .journalRelease n => .answered (serveJournalRelease s n)

/-- The state after a service: its response is ready, but for a commit whose write has begun (R19, R133, R159). -/
def CommitResult.finish (r : CommitResult) (p : Port) : State :=
  match r with
  | .answered a => a.answerAt p
  | .begun s => s

/-- A request of a form is served and answered (R19). -/
def serveRequest (s : State) (p : Port) (op : EngineOp) : State := (serveOp s p op).finish p

/-- A request whose body is of no form is answered BAD_ARGUMENT (R19). -/
def refuseForm (s : State) (r : Request) : State :=
  s.respond r.port .badArgument (engineBadBody s.refund.locked r.kind r.body)

/-- A deferred entry at its service, against the page the commit left (R25). The form of a request was checked when it was
deferred. -/
def serveWork (s : State) : Work → State
  | .task t => serveTask s t
  | .request r =>
    match engineOp r.kind r.body with
    | some op => serveRequest s r.port op
    | none => refuseForm s r

/-! ## Choosing -/

/-- The oldest task not left waiting for the busy page (R22 step 1). -/
def Engine.nextTask (e : Engine) : Option Task := e.tasks.find? (fun t => !t.left)

/-- The engine without its oldest task that is not left waiting. -/
def Engine.dropTask (e : Engine) : Engine := { e with tasks := e.tasks.eraseP (fun t => !t.left) }

/-- The oldest task that is not left waiting is left in place (R24). -/
def leaveTask : List Task → List Task
  | [] => []
  | t :: rest => if t.left then t :: leaveTask rest else { t with left := true } :: rest

/-- A pending entry can be taken: it is not left waiting for the busy page, and it is no ADMIT while the queue holds a task
(R22). -/
def Engine.eligible (e : Engine) (r : Request) : Bool := !r.left && !(r.kind == .admitPass && !e.tasks.isEmpty)

/-- The ports in the cyclic order (R23). -/
def portCycle : List Port :=
  [.lane 0, .lane 1, .lane 2, .lane 3, .lane 4, .lane 5, .station 0, .station 1]

/-- The ports from the one after the pointer round to the pointer itself (R23). -/
def portsAfter (p : Port) : List Port := portCycle.drop (portIndex p + 1) ++ portCycle.take (portIndex p + 1)

/-- A lane port. -/
def isLanePort : Port → Bool
  | .lane _ => true
  | .station _ => false

/-- The order in which a policy looks at the ports (R23). -/
def portOrder (policy : Policy) (pointer : Port) : List Port :=
  let ps := portsAfter pointer
  match policy with
  | .roundRobin => ps
  | .lanesFirst => ps.filter isLanePort ++ ps.filter (fun p => !isLanePort p)
  | .stationFirst => ps.filter (fun p => !isLanePort p) ++ ps.filter isLanePort

/-- The eligible entry of a port. -/
def Engine.eligibleAt (e : Engine) (p : Port) : Option Request :=
  e.pendingSet.find? (fun r => r.port == p && e.eligible r)

/-- The pending entry the policy chooses (R22 step 3, R23). -/
def Engine.choose (e : Engine) (policy : Policy) : Option Request := (portOrder policy e.pointer).findSome? e.eligibleAt

/-- The engine with a request taken from the pending set: it leaves the set and the pointer moves to its port (R20, R23). -/
def Engine.takeRequest (e : Engine) (p : Port) : Engine :=
  { e with pendingSet := e.pendingSet.filter (fun r => r.port != p), pointer := p }

/-- The engine with a request left in place for the busy page; the pointer stays (R24). -/
def Engine.leaveRequest (e : Engine) (p : Port) : Engine :=
  { e with pendingSet := e.pendingSet.map (fun r => if r.port = p then { r with left := true } else r) }

/-- The engine with work appended to the deferred list (R24, R25). -/
def Engine.defer (e : Engine) (w : Work) : Engine := { e with deferred := e.deferred ++ [w] }

/-- The deferred list has room (R24). -/
def Engine.hasRoom (e : Engine) : Bool := decide (e.deferred.length < Config.deferredMax)

/-! ## One taking -/

/-- A task is taken: served, or, when its page is busy, deferred or left in place (R21, R24). -/
def takeTask (s : State) (t : Task) : State :=
  let e := s.engine
  if s.meetsBusy (pageOfSerial t.pass.serial) then
    if e.hasRoom then { s with engine := e.dropTask.defer (.task t) }
    else { s with engine := { e with tasks := leaveTask e.tasks } }
  else serveTask { s with engine := e.dropTask } t

/-- A request is taken: answered BAD_ARGUMENT, or served, or, when its page is busy, deferred or left in place (R19, R23,
R24). -/
def takeRequest (s : State) (r : Request) : State :=
  let e := s.engine
  let s1 : State := { s with engine := e.takeRequest r.port }
  match engineOp r.kind r.body with
  | none => refuseForm s1 r
  | some op =>
    if s.meetsBusy op.needs then
      if e.hasRoom then { s with engine := (e.takeRequest r.port).defer (.request r) }
      else { s with engine := e.leaveRequest r.port }
    else serveRequest s1 r.port op

/-- A pending entry is taken, if one is eligible; if none is, the engine is idle (R22 step 3). -/
def takePending (s : State) : State :=
  match s.engine.choose s.profile.policy with
  | some r => takeRequest s r
  | none => s

/-- One taking of work in the order of R22. -/
def takeWork (s : State) : State :=
  match s.engine.nextTask with
  | some t => takeTask s t
  | none =>
    match s.pageBusy, s.engine.deferred with
    | none, w :: rest => serveWork { s with engine := { s.engine with deferred := rest } } w
    | none, [] => takePending s
    | some _, _ => takePending s

/-! ## The commands -/

/-- ENGINE_TAKE_WORK: one taking; a day change that is due comes first, so that the engine reads the stored and the derived
day as one (R22, R34, R104, R150, log entry 11, DEDUCED). -/
def execEngineTakeWork (s : State) : Host.Outcome State Fault Refusal := .next (takeWork (settleDay s))

/-- ADMIT at a port (R33, R158). -/
def execAdmit (p : Port) (tag : Byte) (body : List Byte) (s : State) : Host.Outcome State Fault Refusal :=
  .next (s.requestEngine p .admitPass tag body)

/-- PASS_READ at a port (R16, R158). -/
def execPassRead (p : Port) (tag : Byte) (body : List Byte) (s : State) : Host.Outcome State Fault Refusal :=
  .next (s.requestEngine p .passRead tag body)

/-- BLOCK at a port (R17, R158). -/
def execBlock (p : Port) (tag : Byte) (body : List Byte) (s : State) : Host.Outcome State Fault Refusal :=
  .next (s.requestEngine p .block tag body)

/-- UNBLOCK at a port (R17, R158). -/
def execUnblock (p : Port) (tag : Byte) (body : List Byte) (s : State) : Host.Outcome State Fault Refusal :=
  .next (s.requestEngine p .unblock tag body)

/-- PAGE_OPEN at a port (R124, R158). -/
def execPageOpen (p : Port) (tag : Byte) (body : List Byte) (s : State) : Host.Outcome State Fault Refusal :=
  .next (s.requestEngine p .pageOpen tag body)

/-- RECORD_PUT at a port (R125, R158). -/
def execRecordPut (p : Port) (tag : Byte) (body : List Byte) (s : State) : Host.Outcome State Fault Refusal :=
  .next (s.requestEngine p .recordPut tag body)

/-- RECORD_DROP at a port (R126, R158). -/
def execRecordDrop (p : Port) (tag : Byte) (body : List Byte) (s : State) : Host.Outcome State Fault Refusal :=
  .next (s.requestEngine p .recordDrop tag body)

/-- STAGING_READ at a port (R127, R158). -/
def execStagingRead (p : Port) (tag : Byte) (body : List Byte) (s : State) : Host.Outcome State Fault Refusal :=
  .next (s.requestEngine p .stagingRead tag body)

/-- PAGE_COMMIT at a port (R131, R158). -/
def execPageCommit (p : Port) (tag : Byte) (body : List Byte) (s : State) : Host.Outcome State Fault Refusal :=
  .next (s.requestEngine p .pageCommit tag body)

/-- PAGE_ABANDON at a port (R128, R158). -/
def execPageAbandon (p : Port) (tag : Byte) (body : List Byte) (s : State) : Host.Outcome State Fault Refusal :=
  .next (s.requestEngine p .pageAbandon tag body)

/-- TARIFF_PUT at a port (R101, R158). -/
def execTariffPut (p : Port) (tag : Byte) (body : List Byte) (s : State) : Host.Outcome State Fault Refusal :=
  .next (s.requestEngine p .tariffPut tag body)

/-- TARIFF_READ at a port (R102, R158). -/
def execTariffRead (p : Port) (tag : Byte) (body : List Byte) (s : State) : Host.Outcome State Fault Refusal :=
  .next (s.requestEngine p .tariffRead tag body)

/-- TARIFF_LOCK at a port (R103, R158). -/
def execTariffLock (p : Port) (tag : Byte) (body : List Byte) (s : State) : Host.Outcome State Fault Refusal :=
  .next (s.requestEngine p .tariffLock tag body)

/-- REFUND_QUOTE at a port (R112, R158). -/
def execRefundQuote (p : Port) (tag : Byte) (body : List Byte) (s : State) : Host.Outcome State Fault Refusal :=
  .next (s.requestEngine p .refundQuote tag body)

/-- REFUND_COMMIT at a port (R113, R158). -/
def execRefundCommit (p : Port) (tag : Byte) (body : List Byte) (s : State) : Host.Outcome State Fault Refusal :=
  .next (s.requestEngine p .refundCommit tag body)

/-- JOURNAL_READ at a port (R120, R158). -/
def execJournalRead (p : Port) (tag : Byte) (body : List Byte) (s : State) : Host.Outcome State Fault Refusal :=
  .next (s.requestEngine p .journalRead tag body)

/-- JOURNAL_RELEASE at a port (R120, R158). -/
def execJournalRelease (p : Port) (tag : Byte) (body : List Byte) (s : State) : Host.Outcome State Fault Refusal :=
  .next (s.requestEngine p .journalRelease tag body)

end Sys2Proof.Machine
end

