-- ==== Sys2Proof/Machine/LaneCommands.lean ====
section
/-! DEFINITION. The commands that lane units serve: LANE_STATUS, LANE_STATE, LANE_ACK, the three RELEASE rows, the sensor
edges and the ends of a lane's durations (chapter 4). -/

namespace Sys2Proof.Machine

/-! ## Requests -/

/-- LANE STATUS at the lane unit: on a lane port for the port's own lane, on a station port for any lane (R82, log entry
24, DEDUCED). -/
def serveLaneStatus (s : State) (p : Port) (body : List Byte) : Served :=
  let report (k : LaneId) : Served :=
    { state := s, code := .ok, body := laneStatusBytes (s.lane k) s.profile.modeOf[k.val] }
  match body with
  | [b] =>
    match p with
    | .lane k => if b.toNat = k.val then report k else { state := s, code := .notPermitted, body := zeros 33 }
    | .station _ =>
      match laneOfByte b with
      | some k => report k
      | none => { state := s, code := .badArgument, body := zeros 33 }
  | _ => { state := s, code := .badArgument, body := zeros 33 }

/-- LANE STATE at the lane unit (R57, R58, R62). Where the body names a lane, every response carries that lane as it stands after
the request, also at BAD_ARGUMENT for its target (R57); where it names none the fields are zero (log entry 15, DEDUCED). -/
def serveLaneState (s : State) (body : List Byte) : Served :=
  match laneStateBody body with
  | none => { state := s, code := .badArgument, body := zeros 5 }
  | some (k, none) => { state := s, code := .badArgument, body := laneStateBytes k (s.lane k) }
  | some (k, some target) =>
    let l := s.lane k
    let code := laneStateCheck (decide (k.val < s.profile.lanesEnabled)) s.timebase.status l target
    if code = .ok then
      let o := commandState (s.laneCtx k) l target
      { state := s.applyLane k o, code := .ok, body := laneStateBytes k o.lane }
    else { state := s, code := code, body := laneStateBytes k l }

/-- LANE ACK at the lane unit (R61). -/
def serveLaneAck (s : State) (body : List Byte) : Served :=
  match laneBody body with
  | none => { state := s, code := .badArgument, body := zeros 4 }
  | some k =>
    let o := ackLane (s.laneCtx k) (s.lane k)
    { state := s.applyLane k o, code := .ok, body := laneAckBytes k o.lane }

/-- RELEASE GO at the lane unit (R65). -/
def serveGo (s : State) (body : List Byte) : Served :=
  match releaseBody .go body with
  | none => { state := s, code := .badArgument, body := zeros 11 }
  | some k =>
    let l := s.lane k
    match waitingHead l with
    | none => { state := s, code := .nothingPending, body := zeros 11 }
    | some e => { state := s.setLane k (releaseHead (s.laneCtx k) l), code := .ok, body := releaseBytes e }

/-- RELEASE DENY at the lane unit (R66). -/
def serveDeny (s : State) (body : List Byte) : Served :=
  match releaseBody .deny body with
  | none => { state := s, code := .badArgument, body := zeros 11 }
  | some k =>
    let l := s.lane k
    match waitingHead l with
    | none => { state := s, code := .nothingPending, body := zeros 11 }
    | some e => { state := s.applyLane k (balkHead (s.laneCtx k) l), code := .ok, body := releaseBytes e }

/-- RELEASE FREE at the lane unit (R67). -/
def serveFree (s : State) (body : List Byte) : Served :=
  match releaseBody .free body with
  | none => { state := s, code := .badArgument, body := zeros 11 }
  | some k =>
    let l := s.lane k
    if l.current = .shut ∨ l.current = .observe then { state := s, code := .notPermitted, body := zeros 11 }
    else if Config.inFlightMax ≤ l.inflight.length then { state := s, code := .laneBusy, body := zeros 11 }
    else
      let c := s.laneCtx k
      { state := s.applyLane k (joinEntry c l (newEntry c .free)), code := .ok, body := freeBytes (joinPosition l) }

/-- LANE_STATUS (R82). -/
def execLaneStatus (p : Port) (tag : Byte) (body : List Byte) (s : State) : Host.Outcome State Fault Refusal :=
  .next (s.requestUnit p .laneStatus tag (fun s1 => serveLaneStatus s1 p body))

/-- LANE_STATE (R57). -/
def execLaneState (p : Port) (tag : Byte) (body : List Byte) (s : State) : Host.Outcome State Fault Refusal :=
  .next (s.requestUnit p .laneState tag (fun s1 => serveLaneState s1 body))

/-- LANE_ACK (R61). -/
def execLaneAck (p : Port) (tag : Byte) (body : List Byte) (s : State) : Host.Outcome State Fault Refusal :=
  .next (s.requestUnit p .laneAck tag (fun s1 => serveLaneAck s1 body))

/-- RELEASE_GO (R65). -/
def execReleaseGo (p : Port) (tag : Byte) (body : List Byte) (s : State) : Host.Outcome State Fault Refusal :=
  .next (s.requestUnit p .release tag (fun s1 => serveGo s1 body))

/-- RELEASE_DENY (R66). -/
def execReleaseDeny (p : Port) (tag : Byte) (body : List Byte) (s : State) : Host.Outcome State Fault Refusal :=
  .next (s.requestUnit p .release tag (fun s1 => serveDeny s1 body))

/-- RELEASE_FREE (R67). -/
def execReleaseFree (p : Port) (tag : Byte) (body : List Byte) (s : State) : Host.Outcome State Fault Refusal :=
  .next (s.requestUnit p .release tag (fun s1 => serveFree s1 body))

/-! ## Durations and sensors -/

/-- PASS_TIMEOUT: the head's pass timeout ends (R68, R70). -/
def execPassTimeout (k : LaneId) (s : State) : Host.Outcome State Fault Refusal :=
  .next (s.applyLane k (timeoutEvent (s.laneCtx k) (s.lane k)))

/-- RELEASE_PULSE_END: the pulse length has elapsed from the release mark (R71). -/
def execReleasePulseEnd (k : LaneId) (s : State) : Host.Outcome State Fault Refusal :=
  .next (s.setLane k (pulseEnd (s.laneCtx k) s.profile.modeOf[k.val] (s.lane k)))

/-- SENSOR_RISING_EDGE: taken by a lane that takes edges; the input's level shows in any case (R73, R74). -/
def execSensorRisingEdge (k : LaneId) (x : ArmSensor) (s : State) : Host.Outcome State Fault Refusal :=
  .next
    (if s.takesEdges k then s.applyLane k (risingEdge (s.laneCtx k) (s.lane k) x)
    else s.setLane k ((s.lane k).setLevel x true))

/-- SENSOR_FALLING_EDGE (R73, R80). -/
def execSensorFallingEdge (k : LaneId) (x : ArmSensor) (s : State) : Host.Outcome State Fault Refusal :=
  .next
    (if s.takesEdges k then s.setLane k (fallingEdge (s.laneCtx k) (s.lane k) x)
    else s.setLane k ((s.lane k).setLevel x false))

/-- ROTATION_WINDOW_END: the rotation window ends (R74). -/
def execRotationWindowEnd (k : LaneId) (s : State) : Host.Outcome State Fault Refusal :=
  .next (s.setLane k (endWindow (s.laneCtx k) (s.lane k)))

/-- STUCK_LIMIT: a sensor has stayed high for 20,000 ms of its episode (R80). -/
def execStuckLimit (k : LaneId) (x : ArmSensor) (s : State) : Host.Outcome State Fault Refusal :=
  .next (s.applyLane k (stuckEvent (s.laneCtx k) (s.lane k) x))

end Sys2Proof.Machine
end

