-- ==== Sys2Proof/Machine/Startup.lean ====
section
/-! DEFINITION. Device reset, start-up and station restart (R12, R15, R28, R83, R99, R121, R138, R153, R163, R171, R176, R177),
and the commands DEVICE_RESET, STARTUP_COMPLETE, STATION_RESTART and RESTART_DUE_EXPIRY. -/

namespace Sys2Proof.Machine

/-- A lane after a device reset; its sensor inputs are pins and keep their levels (R83, log entry 5, DESIGN CHOICE). -/
def Lane.deviceReset (l : Lane) : Lane := Lane.reset l.sensorA.level l.sensorB.level

/-- A link port after a device reset: a frame being assembled is discarded without response, and a select period that spans the
reset has ended for the port (R163, log entry 41, DEDUCED). -/
def PortState.deviceReset (ps : PortState) : PortState :=
  { PortState.reset with line := if ps.line = .idle then .idle else .spanned [] }

/-- Every block at its reset values, the non-volatile items kept, and the PROVISIONAL days of the store confirmed by the
start-up scan (R15, R28, R83, R99, R121, R138, R153, R163, R171, R176). -/
def resetBlocks (s : State) : State where
  phase := .starting
  elapsed := 0
  restartDue := none
  profile := s.profile
  store := scanStore s.store
  staging := .empty
  refund := s.refund
  engine := Engine.reset
  lanes := s.lanes.map Lane.deviceReset
  count := s.count
  timebase := Timebase.reset s.timebase.trim s.timebase.currentDay s.timebase.lastKnown
  notices := Vector.replicate 2 NoticePort.reset
  lanePorts := s.lanePorts.map PortState.deviceReset
  stationPorts := s.stationPorts.map PortState.deviceReset
  countsInFlight := []
  postsInFlight := []
  pending := s.pending

/-- A device reset: every block's reset, and the start-up's closing of the open interval (R95, R176, log entry 4, DEDUCED). The
timebase goes from LOCKED or FREE to UNSET without a TIMEBASE post (R142, R153, log entry 39, DEDUCED). -/
def deviceReset (s : State) : State := closeInterrupted (resetBlocks s)

/-- A lane as the device becomes READY: an enabled lane begins taking edges (R73, R80, R83). -/
def readyLane (enabled elapsed : Nat) (k : Nat) (l : Lane) : Lane := if k < enabled then l.beginTaking elapsed else l

/-- Start-up's end: STARTING becomes READY (R176). -/
def becomeReady (s : State) : State :=
  { s with
    phase := .ready
    store := scanStore s.store
    lanes := s.lanes.mapIdx (fun k l => readyLane s.profile.lanesEnabled s.elapsed k l) }

/-- The mark at which a due reset takes effect at the latest: the earlier of one already due and 1,000 ms from now (R177,
log entry 29, DEDUCED). -/
def restartMark (due : Option Nat) (elapsed : Nat) : Nat :=
  match due with
  | none => elapsed + Config.restartWait
  | some m => min m (elapsed + Config.restartWait)

/-- A due reset has waited its 1,000 ms (R177). -/
def restartOver (due : Option Nat) (elapsed : Nat) : Bool :=
  match due with
  | none => false
  | some m => decide (m ≤ elapsed)

/-- STATION RESTART at the device reset (R177). -/
def serveRestart (s : State) (body : List Byte) : Served :=
  if body = [] then
    { state := { s with restartDue := some (restartMark s.restartDue s.elapsed) }, code := .ok, body := [] }
  else { state := s, code := .badArgument, body := [] }

/-! ## The commands -/

/-- STATION_RESTART (R177). -/
def execStationRestart (p : Port) (tag : Byte) (body : List Byte) (s : State) : Host.Outcome State Fault Refusal :=
  .next (s.requestUnit p .stationRestart tag (fun s1 => serveRestart s1 body))

/-- DEVICE_RESET: power-on, or release of the RESET line (R176, log entry 27, DESIGN CHOICE). -/
def execDeviceReset (s : State) : Host.Outcome State Fault Refusal := .next (deviceReset s)

/-- STARTUP_COMPLETE: the three pieces of start-up work have completed (R176). -/
def execStartupComplete (s : State) : Host.Outcome State Fault Refusal :=
  .next (if s.phase = .starting then becomeReady s else s)

/-- RESTART_DUE_EXPIRY: 1,000 ms of elapsed time after a STATION RESTART's response was made ready (R177). -/
def execRestartDueExpiry (s : State) : Host.Outcome State Fault Refusal :=
  .next (if restartOver s.restartDue s.elapsed then deviceReset s else s)

end Sys2Proof.Machine
end

