-- ==== Sys2Proof/Machine/LinkPorts.lean ====
section
/-! DEFINITION. The link ports: select periods, frame errors, unknown kinds and PORT RESET (chapter 9), and the commands
PORT_RESET, UNKNOWN_KIND, FRAME_ERROR, SELECT_PERIOD_START, RESPONSE_CLOCKED_OUT and SELECT_PERIOD_END. -/

namespace Sys2Proof.Machine

/-! ## PORT RESET -/

/-- The port after its PORT RESET: the response being sent is cut off, every position discarded, and the OK response of the
reset ready in the first position (R162). -/
def PortState.portReset (ps : PortState) (tag : Byte) : PortState :=
  { ps with
    positions := [.ready { kind := Kind.portReset.code, tag := tag, code := .ok, body := [] }]
    sending := false
    sent := 0 }

/-- The deferred work is a request of the port. -/
def Work.isOf (p : Port) : Work → Bool
  | .request r => r.port == p
  | .task _ => false

/-- The engine's holdings after a PORT RESET: the port's entries are removed, later entries keep their order (R27). -/
def Engine.portReset (e : Engine) (p : Port) : Engine :=
  { e with
    pendingSet := e.pendingSet.filter (fun r => r.port != p)
    deferred := e.deferred.filter (fun w => !w.isOf p) }

/-- The staging buffer after a PORT RESET of a station port: its owner's OPEN buffer is abandoned, its owner's commit is
disowned (R27, R137, R162). -/
def Staging.portReset (st : Staging) (i : StationId) : Staging :=
  match st with
  | .empty => .empty
  | .opened b mark => if b.owner = i then .empty else .opened b mark
  | .committing b w => if b.owner = i then .committing b { w with disowned := true } else .committing b w

/-- The posts of a PORT RESET at the staging buffer (R137). -/
def Staging.portResetPosts (st : Staging) (i : StationId) : List NoticeDetail :=
  match st with
  | .empty => []
  | .opened b _ => if b.owner = i then [.staging b.page .abandoned] else []
  | .committing _ _ => []

/-- The blocks a station port hands its reset to besides the engine: the notice unit and the staging buffer (R162, R171). The
notice unit takes the reset first, so that the ABANDONED post of the same reset comes after it and is not discarded by it (R137,
R171, log entry 42, DESIGN CHOICE). -/
def State.stationReset (s : State) (i : StationId) : State :=
  ({ s.setNoticePort i NoticePort.reset with staging := s.staging.portReset i }).postAll (s.staging.portResetPosts i)

/-- PORT RESET taken by the port and by every block it is handed to, before any further work of theirs (R162, log entry 12,
DESIGN CHOICE). -/
def portReset (s : State) (p : Port) (tag : Byte) : State :=
  let s1 := s.setPort p ((s.port p).portReset tag)
  let s2 : State := { s1 with engine := s1.engine.portReset p }
  match p with
  | .station i => s2.stationReset i
  | .lane k => s2.applyLane k (causeEvent (s2.laneCtx k) .linkReset (s2.lane k))

/-- The deferred entry that the engine would take next as a request of port `p` (R22, R25). -/
def deferredInService (s : State) (p : Port) : Option (State × Request) :=
  match s.engine.deferred with
  | .request r :: rest =>
    if r.port = p then some ({ s with engine := { s.engine with deferred := rest } }, r) else none
  | _ => none

/-- The pending entry that the engine would take next as a request of port `p`, to be served or refused for its form and not
deferred (R22, R23, R24). -/
def pendingInService (s : State) (p : Port) : Option (State × Request) :=
  match s.engine.choose s.profile.policy with
  | some r =>
    if r.port = p ∧ s.meetsBusy ((engineOp r.kind r.body).bind EngineOp.needs) = false then
      some ({ s with engine := s.engine.takeRequest p }, r)
    else none
  | none => none

/-- The request of port `p` that the engine takes into service now, if that is the work it would take next, with the state just
after its taking: it has left the pending set or the deferred list and is not yet served (R22, R27). -/
def inService (s : State) (p : Port) : Option (State × Request) :=
  match s.engine.nextTask, s.pageBusy, s.engine.deferred with
  | some _, _, _ => none
  | none, none, _ :: _ => deferredInService s p
  | none, none, [] => pendingInService s p
  | none, some _, _ => pendingInService s p

/-- PORT RESET meets the port's request in service: the engine has just taken it, the port and the blocks take the reset, and
then the service runs to completion. So the lane unit has its LINK_RESET before the admission event, or the staging buffer its
abandoning before the request's check; the port drops the response as disowned, since it holds no reserved position (R27, R45,
R47, R162, log entry 40, DESIGN CHOICE). Where the engine would not take a request of the port next, no service meets the
reset. -/
def portResetInService (s : State) (p : Port) (tag : Byte) : State :=
  match inService (settleDay s) p with
  | some (s1, r) => serveWork (portReset s1 p tag) (.request r)
  | none => portReset s p tag

/-- PORT_RESET: taken whatever the port holds, in every device state; a body is ignored (R162). -/
def execPortReset (p : Port) (tag : Byte) (req : ResetRequest) (s : State) : Host.Outcome State Fault Refusal :=
  .next
    (match req.order with
      | .withdrawalFirst => portReset s p tag
      | .serviceFirst => portResetInService s p tag)

/-! ## Frames the port answers itself -/

/-- UNKNOWN_KIND: the first check of a port's judgement, in every device state (R158). -/
def execUnknownKind (p : Port) (kind tag : Byte) (s : State) : Host.Outcome State Fault Refusal :=
  .next (s.receive p kind tag (fun s1 => s1.respond p .unknownKind []))

/-- A FRAME_ERROR response (R155). -/
def frameErrorResponse : Response := { kind := 0, tag := 0, code := .frameError, body := [] }

/-- FRAME_ERROR: ready in a free position, or lost when both are taken. The four causes have one effect (R155, R157). -/
def execFrameError (p : Port) (_cause : FrameFault) (s : State) : Host.Outcome State Fault Refusal :=
  .next (if (s.port p).isFull then s else s.setPort p ((s.port p).take (.ready frameErrorResponse)))

/-! ## Select periods -/

/-- SELECT_PERIOD_START: the first response is sent if it is ready, from its first bit, and a new assembly of data-in begins
(R154, R155, R160). -/
def execSelectPeriodStart (p : Port) (s : State) : Host.Outcome State Fault Refusal :=
  let ps := s.port p
  .next
    (s.setPort p
      { ps with
        selected := true, sending := ps.firstReady, sent := 0, restartSent := false, line := .collecting [] [] })

/-- The response is the OK of a STATION RESTART (R177, log entry 29, DEDUCED). -/
def Position.isRestartOk : Position → Bool
  | .ready r => r.kind == Kind.stationRestart.code && r.code == .ok
  | .busy _ _ => false
  | .reserved _ _ => false

/-- The port after its first response has been clocked out whole (R160, R177). -/
def PortState.clockedOut (ps : PortState) : PortState :=
  match ps.positions with
  | [] => ps
  | q :: rest =>
    if ps.sending then
      { ps with positions := rest, sending := false, sent := 0, restartSent := ps.restartSent || q.isRestartOk }
    else ps

/-- RESPONSE_CLOCKED_OUT: the last CRC byte of the response being sent (R160, log entry 28, DESIGN CHOICE). -/
def execResponseClockedOut (p : Port) (s : State) : Host.Outcome State Fault Refusal :=
  .next (s.setPort p (s.port p).clockedOut)

/-- The port once its select period has ended: a response broken off stays in place, to be sent again whole, and the bits of a
byte begun are dropped (R154, R160). -/
def PortState.periodEnded (ps : PortState) : PortState :=
  { ps with selected := false, sending := false, sent := 0, restartSent := false, line := .idle }

/-- SELECT_PERIOD_END; a due STATION RESTART whose OK response this period has carried whole takes effect (R154, R160, R177). -/
def execSelectPeriodEnd (p : Port) (s : State) : Host.Outcome State Fault Refusal :=
  let ps := s.port p
  let ended := s.setPort p ps.periodEnded
  .next (if ps.restartSent && s.restartDue.isSome then deviceReset ended else ended)

end Sys2Proof.Machine
end

