-- ==== Sys2Proof/Machine/NoticeUnit.lean ====
section
/-! DEFINITION. The notice unit: posting with coalescing, fetching and subscribing (chapter 10), and the commands
NOTICE_POST, FETCH_NOTICES and SUBSCRIBE. -/

namespace Sys2Proof.Machine

/-- A post coalesced into a notice: latest time and detail are replaced, the repeat count rises, saturating at 255; first
time and place are kept (R168). -/
def Notice.coalesce (n : Notice) (d : NoticeDetail) (t : Nat) : Notice :=
  { n with detail := d, latest := t, count := min Config.repeatMax (n.count + 1) }

/-- The notice stands for the same kind and subject as a post (R168). -/
def Notice.matches (d : NoticeDetail) (n : Notice) : Bool := noticeKey n.detail == noticeKey d

/-- A queue after a post of a kind the port subscribes to (R168). -/
def postInto (queue : List Notice) (d : NoticeDetail) (t : Nat) : List Notice :=
  if queue.any (Notice.matches d) then queue.map (fun n => if n.matches d then n.coalesce d t else n)
  else queue ++ [{ detail := d, first := t, latest := t, count := 1 }]

/-- A station port's queue after a post (R168). -/
def NoticePort.take (n : NoticePort) (d : NoticeDetail) (t : Nat) : NoticePort :=
  if maskIncludes n.mask d then { n with queue := postInto n.queue d t } else n

/-- The notice unit takes a post, at both station ports in one event, with t read at it (R168). -/
def takePost (s : State) (d : NoticeDetail) : State :=
  { s with
    notices := s.notices.map (fun n => n.take d s.timebase.time)
    postsInFlight := s.postsInFlight.erase d }

/-- The post is the oldest in flight from its block: posts of one block reach the notice unit in the order in which they were
made, those of different blocks in any order (R168, log entry 7, DESIGN CHOICE). -/
def State.nextPost (s : State) (d : NoticeDetail) : Bool :=
  s.postsInFlight.find? (fun q => noticeSource q == noticeSource d) == some d

/-- FETCH NOTICES at the notice unit (R169). -/
def serveFetch (s : State) (p : Port) (body : List Byte) : Served :=
  match p with
  | .lane _ => { state := s, code := .notPermitted, body := [] }
  | .station i =>
    if body = [] then
      let n := s.noticePort i
      let sent := n.queue.take Config.fetchMax
      { state := s.setNoticePort i { n with queue := n.queue.drop Config.fetchMax }
        code := .ok
        body := beBytes 1 sent.length ++ sent.flatMap noticeBytes }
    else { state := s, code := .badArgument, body := zeros 1 }

/-- SUBSCRIBE at the notice unit (R170). -/
def serveSubscribe (s : State) (p : Port) (body : List Byte) : Served :=
  match p with
  | .lane _ => { state := s, code := .notPermitted, body := [] }
  | .station i =>
    match maskBody body with
    | none => { state := s, code := .badArgument, body := zeros 4 }
    | some m =>
      let old := (s.noticePort i).queue
      let kept := old.filter (fun n => maskIncludes m n.detail)
      { state := s.setNoticePort i { queue := kept, mask := m }
        code := .ok
        body := beBytes 2 m.toNat ++ beBytes 1 (old.length - kept.length) ++ beBytes 1 kept.length }

/-- NOTICE_POST: the notice unit takes a post, which then is in flight no more. A post that is not in flight, or behind an
older one of its block, cannot reach it and does nothing (R168, log entry 7, DESIGN CHOICE). -/
def execNoticePost (d : NoticeDetail) (s : State) : Host.Outcome State Fault Refusal :=
  .next (if s.nextPost d then takePost s d else s)

/-- FETCH_NOTICES (R169). -/
def execFetchNotices (p : Port) (tag : Byte) (body : List Byte) (s : State) : Host.Outcome State Fault Refusal :=
  .next (s.requestUnit p .fetchNotices tag (fun s1 => serveFetch s1 p body))

/-- SUBSCRIBE (R170). -/
def execSubscribe (p : Port) (tag : Byte) (body : List Byte) (s : State) : Host.Outcome State Fault Refusal :=
  .next (s.requestUnit p .subscribe tag (fun s1 => serveSubscribe s1 p body))

end Sys2Proof.Machine
end

