-- ==== Sys2Proof/Machine/ProfileUnit.lean ====
section
/-! DEFINITION. The station profile: clamping and storing a CONFIGURE, the lanes it concerns, and what each changed field
sets off (chapter 11), and the commands CONFIGURE and READ_PROFILE. -/

namespace Sys2Proof.Machine

/-! ## Clamping -/

/-- A value brought to the nearer end of a range (R173). -/
def clampRange (lo hi : Nat) (v : Int) : Nat := min hi (max lo v.toNat)

/-- The interval length stored for a value sent (R173). -/
def clampInterval (v : Int) : Nat :=
  if v ≤ 7 then 5 else if v ≤ 12 then 10 else if v ≤ 17 then 15 else if v ≤ 24 then 20 else if v ≤ 44 then 30 else 60

/-- The lift stored for a value sent: above the top of the range, the top (R173). -/
def clampLift (v : Int) : LiftId := if v = 0 then 0 else 1

/-- The release mode stored for a value sent (R173). -/
def clampMode (v : Int) : ReleaseMode := if v = 0 then .timed else .held

/-- The policy stored for a value sent (R173). -/
def clampPolicy (v : Int) : Policy := if v = 0 then .roundRobin else if v = 1 then .lanesFirst else .stationFirst

/-- The profile with an item's clamped value stored; the trim is the timebase's (R172, R173). -/
def Profile.store (f : Profile) (i : ConfigItem) : Profile :=
  match i.field with
  | .lanesEnabled => { f with lanesEnabled := clampRange 0 6 i.value }
  | .lift k => { f with liftOf := f.liftOf.set k.val (clampLift i.value) }
  | .zone l => { f with zoneOf := f.zoneOf.set l.val (clampRange 0 15 i.value) }
  | .passback l => { f with passback := f.passback.set l.val (clampRange 0 3600 i.value) }
  | .mode k => { f with modeOf := f.modeOf.set k.val (clampMode i.value) }
  | .pulse => { f with pulse := clampRange 100 5000 i.value }
  | .passTimeout => { f with passTimeout := clampRange 2 60 i.value }
  | .interval => { f with intervalMinutes := clampInterval i.value }
  | .rollover => { f with rollover := clampRange 0 1439 i.value }
  | .policy => { f with policy := clampPolicy i.value }
  | .stationId => { f with stationId := i.value.toNat }
  | .trim => f

/-- The trim an item stores (R173). -/
def storeTrim (trim : Int) (i : ConfigItem) : Int :=
  match i.field with
  | .trim => clampTrim i.value
  | _ => trim

/-- The pass timeout is raised to the smallest whole second not below L (R173). -/
def Profile.raiseTimeout (f : Profile) : Profile :=
  if f.passTimeout * 1000 < f.pulse then { f with passTimeout := (f.pulse + 999) / 1000 } else f

/-- The profile a CONFIGURE would store (R173). -/
def Profile.configured (f : Profile) (items : List ConfigItem) : Profile := (items.foldl Profile.store f).raiseTimeout

/-- The trim a CONFIGURE would store (R173). -/
def configuredTrim (trim : Int) (items : List ConfigItem) : Int := items.foldl storeTrim trim

/-! ## Concerned lanes -/

/-- An item concerns a lane: it would change the lane's lift or release mode, the zone or passback interval of the lift the
lane is assigned to before the request, or take the lane out of the enabled ones (R173). -/
def concerns (f : Profile) (i : ConfigItem) (k : LaneId) : Bool :=
  let g := f.store i
  match i.field with
  | .lanesEnabled => decide (k.val < f.lanesEnabled) && decide (g.lanesEnabled ≤ k.val)
  | .lift j => j == k && g.liftOf[k.val] != f.liftOf[k.val]
  | .zone l => f.liftOf[k.val] == l && g.zoneOf[l.val] != f.zoneOf[l.val]
  | .passback l => f.liftOf[k.val] == l && g.passback[l.val] != f.passback[l.val]
  | .mode j => j == k && g.modeOf[k.val] != f.modeOf[k.val]
  | .pulse => false
  | .passTimeout => false
  | .interval => false
  | .rollover => false
  | .policy => false
  | .stationId => false
  | .trim => false

/-- The lowest-numbered lane not SHUT that an item concerns (R173, R174). -/
def openLaneOf (s : State) (i : ConfigItem) : Option LaneId :=
  (List.finRange 6).find? (fun k => concerns s.profile i k && (s.lane k).current != .shut)

/-- The first item, in the order sent, that concerns a lane not SHUT, by its field code, with the lowest such lane (R174). -/
def lanesOpen (s : State) : List ConfigItem → Option (Nat × LaneId)
  | [] => none
  | i :: rest =>
    match openLaneOf s i with
    | some k => some (i.field.code, k)
    | none => lanesOpen s rest

/-! ## Effects -/

/-- A lane after a change of the lanes-enabled count (R73, R174). -/
def enableLane (before after elapsed : Nat) (k : Nat) (l : Lane) : Lane :=
  if k < before ∧ after ≤ k then l.stopTaking
  else if before ≤ k ∧ k < after then l.beginTaking elapsed
  else l

/-- The state after a CONFIGURE that passes its checks: profile and trim stored in one write, lanes beginning and ceasing to
take edges, one cut event for a changed interval length or rollover minute, and a day change that a changed rollover
minute brings (R94, R151, R174). -/
def storeProfile (s : State) (f : Profile) (trim : Int) : State :=
  let old := s.profile
  let s1 : State :=
    { s with
      profile := f
      timebase := { s.timebase with trim := trim }
      lanes := s.lanes.mapIdx (fun k l => enableLane old.lanesEnabled f.lanesEnabled s.elapsed k l) }
  let s2 := if f.intervalMinutes ≠ old.intervalMinutes ∨ f.rollover ≠ old.rollover then closeCut s1 else s1
  if f.rollover ≠ old.rollover then settleDay s2 else s2

/-- The body of a CONFIGURE response: failing field code, failing lane, and the profile as stored (R174, log entry 20, DEDUCED). -/
def configureBytes (code lane : Nat) (s : State) : List Byte :=
  beBytes 1 code ++ beBytes 1 lane ++ profileBytes s.profile s.timebase.trim

/-- CONFIGURE at the profile (R173, R174). -/
def serveConfigure (s : State) (body : List Byte) : Served :=
  match configureBody body with
  | none => { state := s, code := .badArgument, body := configureBytes 0 0 s }
  | some items =>
    match lanesOpen s items with
    | some (code, k) => { state := s, code := .lanesOpen, body := configureBytes code k.val s }
    | none =>
      let s1 := storeProfile s (s.profile.configured items) (configuredTrim s.timebase.trim items)
      { state := s1, code := .ok, body := configureBytes 0 0 s1 }

/-- READ PROFILE at the profile (R175). -/
def serveReadProfile (s : State) (body : List Byte) : Served :=
  if body = [] then
    { state := s, code := .ok, body := identityBytes ++ profileBytes s.profile s.timebase.trim }
  else { state := s, code := .badArgument, body := zeros 34 }

/-! ## The commands -/

/-- CONFIGURE (R173, R174). -/
def execConfigure (p : Port) (tag : Byte) (body : List Byte) (s : State) : Host.Outcome State Fault Refusal :=
  .next (s.requestUnit p .configure tag (fun s1 => serveConfigure s1 body))

/-- READ_PROFILE (R175). -/
def execReadProfile (p : Port) (tag : Byte) (body : List Byte) (s : State) : Host.Outcome State Fault Refusal :=
  .next (s.requestUnit p .readProfile tag (fun s1 => serveReadProfile s1 body))

end Sys2Proof.Machine
end

