-- ==== Sys2Proof/Machine/Dispatch.lean ====
section
/-! DEFINITION. One arm per command: the effect of a command on everything but the queue of waiting commands. -/

namespace Sys2Proof.Machine

/-- The effect of a command (spec/opcode_table.json). -/
def exec (i : Instr) (s : State) : Host.Outcome State Fault Refusal :=
  match i with
  | .admitPass p tag body => Sys2Proof.Machine.execAdmit p tag body s
  | .laneStatus p tag body => Sys2Proof.Machine.execLaneStatus p tag body s
  | .portReset p tag req => Sys2Proof.Machine.execPortReset p tag req s
  | .laneState p tag body => Sys2Proof.Machine.execLaneState p tag body s
  | .laneAck p tag body => Sys2Proof.Machine.execLaneAck p tag body s
  | .releaseGo p tag body => Sys2Proof.Machine.execReleaseGo p tag body s
  | .releaseDeny p tag body => Sys2Proof.Machine.execReleaseDeny p tag body s
  | .releaseFree p tag body => Sys2Proof.Machine.execReleaseFree p tag body s
  | .passRead p tag body => Sys2Proof.Machine.execPassRead p tag body s
  | .block p tag body => Sys2Proof.Machine.execBlock p tag body s
  | .unblock p tag body => Sys2Proof.Machine.execUnblock p tag body s
  | .pageOpen p tag body => Sys2Proof.Machine.execPageOpen p tag body s
  | .recordPut p tag body => Sys2Proof.Machine.execRecordPut p tag body s
  | .recordDrop p tag body => Sys2Proof.Machine.execRecordDrop p tag body s
  | .stagingRead p tag body => Sys2Proof.Machine.execStagingRead p tag body s
  | .pageCommit p tag body => Sys2Proof.Machine.execPageCommit p tag body s
  | .pageAbandon p tag body => Sys2Proof.Machine.execPageAbandon p tag body s
  | .tariffPut p tag body => Sys2Proof.Machine.execTariffPut p tag body s
  | .tariffRead p tag body => Sys2Proof.Machine.execTariffRead p tag body s
  | .tariffLock p tag body => Sys2Proof.Machine.execTariffLock p tag body s
  | .refundQuote p tag body => Sys2Proof.Machine.execRefundQuote p tag body s
  | .refundCommit p tag body => Sys2Proof.Machine.execRefundCommit p tag body s
  | .journalRead p tag body => Sys2Proof.Machine.execJournalRead p tag body s
  | .journalRelease p tag body => Sys2Proof.Machine.execJournalRelease p tag body s
  | .logRead p tag body => Sys2Proof.Machine.execLogRead p tag body s
  | .logRelease p tag body => Sys2Proof.Machine.execLogRelease p tag body s
  | .timeReference p tag body => Sys2Proof.Machine.execTimeReference p tag body s
  | .readTime p tag body => Sys2Proof.Machine.execReadTime p tag body s
  | .configure p tag body => Sys2Proof.Machine.execConfigure p tag body s
  | .readProfile p tag body => Sys2Proof.Machine.execReadProfile p tag body s
  | .subscribe p tag body => Sys2Proof.Machine.execSubscribe p tag body s
  | .fetchNotices p tag body => Sys2Proof.Machine.execFetchNotices p tag body s
  | .stationRestart p tag body => Sys2Proof.Machine.execStationRestart p tag body s
  | .unknownKind p kind tag => Sys2Proof.Machine.execUnknownKind p kind tag s
  | .frameError p cause => Sys2Proof.Machine.execFrameError p cause s
  | .selectPeriodStart p => Sys2Proof.Machine.execSelectPeriodStart p s
  | .responseClockedOut p => Sys2Proof.Machine.execResponseClockedOut p s
  | .selectPeriodEnd p => Sys2Proof.Machine.execSelectPeriodEnd p s
  | .engineTakeWork => Sys2Proof.Machine.execEngineTakeWork s
  | .writeCompletion result => Sys2Proof.Machine.execWriteCompletion result s
  | .idleTimerEnd => Sys2Proof.Machine.execIdleTimerEnd s
  | .passTimeout k => Sys2Proof.Machine.execPassTimeout k s
  | .releasePulseEnd k => Sys2Proof.Machine.execReleasePulseEnd k s
  | .sensorRisingEdge k x => Sys2Proof.Machine.execSensorRisingEdge k x s
  | .sensorFallingEdge k x => Sys2Proof.Machine.execSensorFallingEdge k x s
  | .rotationWindowEnd k => Sys2Proof.Machine.execRotationWindowEnd k s
  | .stuckLimit k x => Sys2Proof.Machine.execStuckLimit k x s
  | .slewTick => Sys2Proof.Machine.execSlewTick s
  | .referenceAgeExpiry => Sys2Proof.Machine.execReferenceAgeExpiry s
  | .lastKnownWrite => Sys2Proof.Machine.execLastKnownWrite s
  | .boundaryEvent => Sys2Proof.Machine.execBoundaryEvent s
  | .dayChange => Sys2Proof.Machine.execDayChange s
  | .countEvent ev => Sys2Proof.Machine.execCountEvent ev s
  | .noticePost d => Sys2Proof.Machine.execNoticePost d s
  | .deviceReset => Sys2Proof.Machine.execDeviceReset s
  | .startupComplete => Sys2Proof.Machine.execStartupComplete s
  | .restartDueExpiry => Sys2Proof.Machine.execRestartDueExpiry s
  | .runningOfStationTime => Sys2Proof.Machine.execRunning s

end Sys2Proof.Machine
end

