-- ==== Sys2Proof/Machine/LinkLine.lean ====
section
/-! DEFINITION. The lines of a link port: select going active and inactive, rising edges of clock with their bit of data-in, and
what data-out shows (R154, R155, R160, R163). No row of spec/opcode_table.json is a bit. Bits come to the device here, and what
they complete, a frame or a whole response, is put into the queue as the command it is (log entry 41, DESIGN CHOICE). -/

namespace Sys2Proof.Machine

/-! ## Data-in -/

/-- A whole byte of a select period has arrived. The period's frame is taken at its last byte, or discarded as soon as it is
found not sound, and the rest of the data-in is then ignored (R155). -/
def Line.takeByte (p : Port) (bytes : List Byte) : Line × List Instr :=
  match commandOfPeriod p bytes with
  | none => (.collecting bytes [], [])
  | some c => if c = .frameError p .truncated then (.collecting bytes [], []) else (.ignoring, [c])

/-- A rising edge of clock captures one bit of data-in, and eight make a byte; edges while select is inactive are ignored (R154).
After a device reset within the period, edges are ignored until the device is READY, and the next start mark then begins a new
assembly (R163, log entry 41, DEDUCED). -/
def Line.clock (p : Port) (phase : Phase) (x : Bool) : Line → Line × List Instr
  | .idle => (.idle, [])
  | .ignoring => (.ignoring, [])
  | .collecting bytes bits =>
    if bits.length < 7 then (.collecting bytes (bits ++ [x]), [])
    else Line.takeByte p (bytes ++ [byteOfBits (bits ++ [x])])
  | .spanned bits =>
    if phase = .starting then (.spanned [], [])
    else if bits.length < 7 then (.spanned (bits ++ [x]), [])
    else if byteOfBits (bits ++ [x]) = requestMark then (.collecting [requestMark] [], [])
    else (.spanned [], [])

/-- What a select period that ends here has left of its data-in: a frame begun is discarded as FRAME_ERROR, the bits of a byte
begun are nothing (R154, R155). -/
def Line.leftover (p : Port) : Line → List Instr
  | .idle => []
  | .ignoring => []
  | .collecting bytes _ => (commandOfPeriod p bytes).toList
  | .spanned _ => []

/-! ## Data-out -/

/-- The bits of the response being sent, most significant first; none when the period carries only fill (R154, R160). -/
def State.outBits (s : State) (p : Port) : List Bool := (s.dataOut p).flatMap bitsOf

/-- The bit that data-out presents at the next rising edge of clock: the response being sent and then fill; `none` is high
impedance, outside a select period (R154, R160). -/
def State.dataOutBit (s : State) (p : Port) : Option Bool :=
  let ps := s.port p
  if ps.selected then some ((s.outBits p).getD ps.sent false) else none

/-- The next edge clocks out the last bit of the last CRC byte (R160). -/
def State.sendsLast (s : State) (p : Port) : Bool :=
  (s.port p).sending && (s.port p).sent + 1 == (s.outBits p).length

/-! ## The lines -/

/-- Commands join the end of the queue. -/
def State.arrive (s : State) (cs : List Instr) : State := { s with pending := s.pending ++ cs }

/-- Select goes active (R154). -/
def State.selectOn (s : State) (p : Port) : State := s.arrive [.selectPeriodStart p]

/-- A rising edge of clock with a bit of data-in: a command that the bit completes arrives, and so does the end of a response
whose last bit goes out (R154, R160). Where one edge brings both, the request comes first (log entry 41, DESIGN CHOICE). -/
def State.clockEdge (s : State) (p : Port) (x : Bool) : State :=
  let ps := s.port p
  if ps.line = .idle then s
  else
    let r := ps.line.clock p s.phase x
    (s.setPort p { ps with line := r.1, sent := if ps.sending then ps.sent + 1 else ps.sent }).arrive
      (r.2 ++ if s.sendsLast p then [.responseClockedOut p] else [])

/-- Rising edges of clock with these bits of data-in, one after another. -/
def State.clockBits (s : State) (p : Port) (bits : List Bool) : State := bits.foldl (fun u x => u.clockEdge p x) s

/-- Select goes inactive (R154, R155). -/
def State.selectOff (s : State) (p : Port) : State :=
  s.arrive ((s.port p).line.leftover p ++ [.selectPeriodEnd p])

end Sys2Proof.Machine
end

