-- ==== Sys2Proof/WellFormed.lean ====
section
/-! DEFINITION. Which command terms a port or a block can meet: the checks of R155 and R164 on a request frame's parts.
The meanings are total and run ill-formed terms too (log entry 34, DESIGN CHOICE). -/

namespace Sys2Proof

/-- A request body fits its frame (R155). -/
def bodyFits (body : List Byte) : Bool := body.length ≤ Config.requestBodyMax

/-- A RELEASE row holds the bodies of its own action (R164, log entry 26, DEDUCED). -/
def releaseFits (a : ReleaseAction) (body : List Byte) : Bool := bodyFits body && releaseRow body == a

/-- The check of one command term. -/
def Instr.wellFormed : Instr → Bool
  | .admitPass _ _ body => bodyFits body
  | .laneStatus _ _ body => bodyFits body
  | .portReset _ _ req => bodyFits req.body
  | .laneState _ _ body => bodyFits body
  | .laneAck _ _ body => bodyFits body
  | .releaseGo _ _ body => releaseFits .go body
  | .releaseDeny _ _ body => releaseFits .deny body
  | .releaseFree _ _ body => releaseFits .free body
  | .passRead _ _ body => bodyFits body
  | .block _ _ body => bodyFits body
  | .unblock _ _ body => bodyFits body
  | .pageOpen _ _ body => bodyFits body
  | .recordPut _ _ body => bodyFits body
  | .recordDrop _ _ body => bodyFits body
  | .stagingRead _ _ body => bodyFits body
  | .pageCommit _ _ body => bodyFits body
  | .pageAbandon _ _ body => bodyFits body
  | .tariffPut _ _ body => bodyFits body
  | .tariffRead _ _ body => bodyFits body
  | .tariffLock _ _ body => bodyFits body
  | .refundQuote _ _ body => bodyFits body
  | .refundCommit _ _ body => bodyFits body
  | .journalRead _ _ body => bodyFits body
  | .journalRelease _ _ body => bodyFits body
  | .logRead _ _ body => bodyFits body
  | .logRelease _ _ body => bodyFits body
  | .timeReference _ _ body => bodyFits body
  | .readTime _ _ body => bodyFits body
  | .configure _ _ body => bodyFits body
  | .readProfile _ _ body => bodyFits body
  | .subscribe _ _ body => bodyFits body
  | .fetchNotices _ _ body => bodyFits body
  | .stationRestart _ _ body => bodyFits body
  | .unknownKind _ kind _ => (Kind.ofCode kind).isNone
  | .frameError _ _ => true
  | .selectPeriodStart _ => true
  | .responseClockedOut _ => true
  | .selectPeriodEnd _ => true
  | .engineTakeWork => true
  | .writeCompletion _ => true
  | .idleTimerEnd => true
  | .passTimeout _ => true
  | .releasePulseEnd _ => true
  | .sensorRisingEdge _ _ => true
  | .sensorFallingEdge _ _ => true
  | .rotationWindowEnd _ => true
  | .stuckLimit _ _ => true
  | .slewTick => true
  | .referenceAgeExpiry => true
  | .lastKnownWrite => true
  | .boundaryEvent => true
  | .dayChange => true
  | .countEvent _ => true
  | .noticePost _ => true
  | .deviceReset => true
  | .startupComplete => true
  | .restartDueExpiry => true
  | .runningOfStationTime => true

end Sys2Proof
end

