-- ==== Sys2Proof/Safety.lean ====
section
/-! DEFINITION. What holds of the device at all times: the laws its rules state of every block, in the terms the statements
use. Each is decidable. -/

namespace Sys2Proof

/-- The port, kind code and tag of a request a port accepts as pending: every request frame but PORT RESET (R157). -/
def Instr.parts : Instr → Option (Port × Byte × Byte)
  | .admitPass p tag _ => some (p, Kind.admitPass.code, tag)
  | .laneStatus p tag _ => some (p, Kind.laneStatus.code, tag)
  | .portReset _ _ _ => none
  | .laneState p tag _ => some (p, Kind.laneState.code, tag)
  | .laneAck p tag _ => some (p, Kind.laneAck.code, tag)
  | .releaseGo p tag _ => some (p, Kind.release.code, tag)
  | .releaseDeny p tag _ => some (p, Kind.release.code, tag)
  | .releaseFree p tag _ => some (p, Kind.release.code, tag)
  | .passRead p tag _ => some (p, Kind.passRead.code, tag)
  | .block p tag _ => some (p, Kind.block.code, tag)
  | .unblock p tag _ => some (p, Kind.unblock.code, tag)
  | .pageOpen p tag _ => some (p, Kind.pageOpen.code, tag)
  | .recordPut p tag _ => some (p, Kind.recordPut.code, tag)
  | .recordDrop p tag _ => some (p, Kind.recordDrop.code, tag)
  | .stagingRead p tag _ => some (p, Kind.stagingRead.code, tag)
  | .pageCommit p tag _ => some (p, Kind.pageCommit.code, tag)
  | .pageAbandon p tag _ => some (p, Kind.pageAbandon.code, tag)
  | .tariffPut p tag _ => some (p, Kind.tariffPut.code, tag)
  | .tariffRead p tag _ => some (p, Kind.tariffRead.code, tag)
  | .tariffLock p tag _ => some (p, Kind.tariffLock.code, tag)
  | .refundQuote p tag _ => some (p, Kind.refundQuote.code, tag)
  | .refundCommit p tag _ => some (p, Kind.refundCommit.code, tag)
  | .journalRead p tag _ => some (p, Kind.journalRead.code, tag)
  | .journalRelease p tag _ => some (p, Kind.journalRelease.code, tag)
  | .logRead p tag _ => some (p, Kind.logRead.code, tag)
  | .logRelease p tag _ => some (p, Kind.logRelease.code, tag)
  | .timeReference p tag _ => some (p, Kind.timeReference.code, tag)
  | .readTime p tag _ => some (p, Kind.readTime.code, tag)
  | .configure p tag _ => some (p, Kind.configure.code, tag)
  | .readProfile p tag _ => some (p, Kind.readProfile.code, tag)
  | .subscribe p tag _ => some (p, Kind.subscribe.code, tag)
  | .fetchNotices p tag _ => some (p, Kind.fetchNotices.code, tag)
  | .stationRestart p tag _ => some (p, Kind.stationRestart.code, tag)
  | .unknownKind p kind tag => some (p, kind, tag)
  | .frameError _ _ => none
  | .selectPeriodStart _ => none
  | .responseClockedOut _ => none
  | .selectPeriodEnd _ => none
  | .engineTakeWork => none
  | .writeCompletion _ => none
  | .idleTimerEnd => none
  | .passTimeout _ => none
  | .releasePulseEnd _ => none
  | .sensorRisingEdge _ _ => none
  | .sensorFallingEdge _ _ => none
  | .rotationWindowEnd _ => none
  | .stuckLimit _ _ => none
  | .slewTick => none
  | .referenceAgeExpiry => none
  | .lastKnownWrite => none
  | .boundaryEvent => none
  | .dayChange => none
  | .countEvent _ => none
  | .noticePost _ => none
  | .deviceReset => none
  | .startupComplete => none
  | .restartDueExpiry => none
  | .runningOfStationTime => none

/-- The port, kind, tag and body of a request the table engine serves (R19). -/
def Instr.engineParts : Instr → Option (Port × Kind × Byte × List Byte)
  | .admitPass p tag body => some (p, .admitPass, tag, body)
  | .passRead p tag body => some (p, .passRead, tag, body)
  | .block p tag body => some (p, .block, tag, body)
  | .unblock p tag body => some (p, .unblock, tag, body)
  | .pageOpen p tag body => some (p, .pageOpen, tag, body)
  | .recordPut p tag body => some (p, .recordPut, tag, body)
  | .recordDrop p tag body => some (p, .recordDrop, tag, body)
  | .stagingRead p tag body => some (p, .stagingRead, tag, body)
  | .pageCommit p tag body => some (p, .pageCommit, tag, body)
  | .pageAbandon p tag body => some (p, .pageAbandon, tag, body)
  | .tariffPut p tag body => some (p, .tariffPut, tag, body)
  | .tariffRead p tag body => some (p, .tariffRead, tag, body)
  | .tariffLock p tag body => some (p, .tariffLock, tag, body)
  | .refundQuote p tag body => some (p, .refundQuote, tag, body)
  | .refundCommit p tag body => some (p, .refundCommit, tag, body)
  | .journalRead p tag body => some (p, .journalRead, tag, body)
  | .journalRelease p tag body => some (p, .journalRelease, tag, body)
  | _ => none

namespace Machine

/-! ## Ports -/

/-- The position holds a whole response. -/
def Position.isReady : Position → Bool
  | .ready _ => true
  | .busy _ _ => false
  | .reserved _ _ => false

/-- The port has no pending request and a free position, so that it accepts a request (R157). -/
abbrev PortFree (s : State) (p : Port) : Prop :=
  (s.port p).positions.length < Config.positionsMax ∧ ∀ q ∈ (s.port p).positions, q.isReady = true

/-- The device is READY and the port accepts a request (R157, R158). -/
abbrev Open (s : State) (p : Port) : Prop := s.phase = .ready ∧ PortFree s p

/-- The state with one more response ready at a port, behind those there (R157, R159). -/
def State.answered (s : State) (p : Port) (kind tag : Byte) (code : Code) (body : List Byte) : State :=
  s.setPort p ((s.port p).take (.ready { kind := kind, tag := tag, code := code, body := body }))

/-- No BUSY response stands before the first reserved position: one that does would be ready (R157). -/
def busyBehind : List Position → Bool
  | [] => true
  | .busy _ _ :: _ => false
  | .ready _ :: rest => busyBehind rest
  | .reserved _ _ :: _ => true

/-- What the positions of a port can be: at most two, at most one of them reserved for the pending request, a BUSY response
only behind that one, and a response is being sent only from a ready first position (R157, R160). -/
abbrev PortState.lawful (ps : PortState) : Prop :=
  ps.positions.length ≤ Config.positionsMax ∧ ps.positions.countP Position.isReserved ≤ 1 ∧
    busyBehind ps.positions = true ∧ (ps.sending = true → ps.selected = true ∧ ps.firstReady = true)

/-- How many holders the pending request of a port has: the pending set, the deferred list, a commit being written (R20, R25,
R133). -/
def State.holdersOf (s : State) (p : Port) : Nat :=
  s.engine.pendingSet.countP (fun r => r.port == p) + s.engine.deferred.countP (fun w => w.isOf p) +
    match s.staging with
    | .committing b w => if Port.station b.owner = p ∧ w.disowned = false then 1 else 0
    | .empty => 0
    | .opened _ _ => 0

/-- Every port's positions are lawful, and its pending request is held by the engine exactly once (R20, R27, R157, R159). -/
abbrev PortLaw (s : State) : Prop :=
  ∀ p ∈ portCycle, (s.port p).lawful ∧ (s.port p).positions.countP Position.isReserved = s.holdersOf p

/-! ## Lanes -/

/-- The head is RELEASED (R63). -/
def Lane.headReleased (l : Lane) : Bool :=
  match l.inflight with
  | e :: _ => e.released
  | [] => false

/-- The law of one lane under its release mode (R56, R58, R59, R60, R63, R64, R71, R80). -/
abbrev Lane.lawful (l : Lane) (mode : ReleaseMode) : Prop :=
  l.inflight.length ≤ Config.inFlightMax ∧
  (l.current = .shut ∨ l.current = .observe → l.inflight = []) ∧
  (∀ e ∈ l.inflight.tail, e.released = false) ∧
  (l.current = .self → l.inflight ≠ [] → l.headReleased = true) ∧
  (l.output = true → l.current = .observe ∨ l.headReleased = true) ∧
  (l.current = .observe → l.output = true) ∧
  (mode = .held → l.headReleased = true → l.output = true) ∧
  (l.errorFlag = true → l.current = .shut ∨ l.current = .attended) ∧
  (l.errorFlag = (l.causeSensor || l.causeLink)) ∧
  (l.firstCause = none ↔ l.errorFlag = false) ∧
  (l.firstCause = some .sensorFailed → l.causeSensor = true) ∧
  (l.firstCause = some .linkReset → l.causeLink = true) ∧
  l.score ≤ Config.scoreMax

/-- Every lane keeps its law; a lane is SHUT while the device is STARTING, while the timebase is UNSET, and while it is not
enabled (R56, R95, R142, R173, R176). -/
abbrev LaneLaw (s : State) : Prop :=
  ∀ k : LaneId,
    (s.lane k).lawful s.profile.modeOf[k.val] ∧
    (s.phase = .starting ∨ s.timebase.status = .unset ∨ s.profile.lanesEnabled ≤ k.val → (s.lane k).current = .shut)

/-! ## Pass store -/

/-- The form of the store: strictly ascending by serial, no record of serial 0, at most 32 records on a page (R10, R11). -/
abbrev Store.wf (store : List PassRecord) : Prop :=
  ascending store = true ∧ (∀ r ∈ store, r.ent.serial ≠ 0) ∧
    ∀ r ∈ store, (pageRecords store (homePage r.ent.serial)).length ≤ Config.pageRecords

/-- The form of the staged entries: at most 32, strictly ascending by serial, each on the buffer's page, none of serial 0
(R122, R125). -/
abbrev Buffer.wf (b : Buffer) : Prop :=
  b.page < Config.pageCount ∧ b.entries.length ≤ Config.pageRecords ∧
    b.entries.Pairwise (fun x y => x.ent.serial < y.ent.serial) ∧
    ∀ e ∈ b.entries, homePage e.ent.serial = b.page ∧ e.ent.serial ≠ 0

/-- The days of a record are within its window and within what it was sold with, and its refunds within what was paid (R4, R6,
R9, R114). -/
abbrev PassRecord.sound (r : PassRecord) : Prop :=
  r.usage.used.Pairwise (fun x y => x.day < y.day) ∧
    (∀ u ∈ r.usage.used, r.ent.firstDay ≤ u.day ∧ u.day ≤ r.ent.lastDay) ∧
    r.usage.used.length + r.usage.refundedDays ≤ r.ent.rideDays ∧ r.usage.refundedTotal ≤ r.ent.paid

/-- A staged entry beside the live records: a COPIED entry has the window, the ride-days and the price of its live record, a NEW
entry has no live record and any other has one (R122, R129). -/
abbrev Staged.matches (store : List PassRecord) (e : Staged) : Prop :=
  (e.mark = .new ↔ ∀ r ∈ store, r.ent.serial ≠ e.ent.serial) ∧
    (e.mark = .copied → ∀ r ∈ store, r.ent.serial = e.ent.serial →
      r.ent.firstDay = e.ent.firstDay ∧ r.ent.window = e.ent.window ∧ r.ent.rideDays = e.ent.rideDays ∧
        r.ent.paid = e.ent.paid)

/-- A page being written beside its buffer and the live records: one record for each staged entry, sound, with the live usage
or, without a live record, an empty one; no record that it drops has a PROVISIONAL day (R131, R133). -/
abbrev PageWrite.matches (store : List PassRecord) (b : Buffer) (w : PageWrite) : Prop :=
  w.image.map (fun q => q.ent.serial) = b.entries.map (fun e => e.ent.serial) ∧
    (∀ q ∈ w.image, q.sound) ∧
    (∀ q ∈ w.image, ∀ r ∈ store, r.ent.serial = q.ent.serial → q.usage = r.usage) ∧
    (∀ q ∈ w.image, (∀ r ∈ store, r.ent.serial ≠ q.ent.serial) → q.usage = {}) ∧
    ∀ r ∈ store, homePage r.ent.serial = b.page → (∀ q ∈ w.image, q.ent.serial ≠ r.ent.serial) →
      hasProvisional r.usage.used = false

/-- The law of the staging buffer beside the store. -/
def Staging.lawful (store : List PassRecord) : Staging → Bool
  | .empty => true
  | .opened b _ => decide (b.wf ∧ ∀ e ∈ b.entries, e.matches store)
  | .committing b w => decide (b.wf ∧ (∀ e ∈ b.entries, e.matches store) ∧ w.matches store b)

/-- The pass store keeps its form, every record is sound, the staging buffer agrees with the store, and while the device is
STARTING the buffer is EMPTY and no request is at the engine (R4, R6, R9, R10, R28, R114, R122, R133, R138, R176). -/
abbrev StoreLaw (s : State) : Prop :=
  Store.wf s.store ∧ (∀ r ∈ s.store, r.sound) ∧ s.staging.lawful s.store = true ∧
    (s.phase = .starting → s.staging = .empty ∧ s.engine.pendingSet = [] ∧ s.engine.deferred = [])

/-! ## Table engine -/

/-- The page a piece of deferred work needs (R24). -/
def Work.page : Work → Option Nat
  | .task t => pageOfSerial t.pass.serial
  | .request r => (engineOp r.kind r.body).bind EngineOp.needs

/-- In-flight PASS entries of a lane. -/
def Lane.passCount (l : Lane) : Nat :=
  l.inflight.countP (fun e => match e.kind with
    | .pass _ => true
    | .free => false)

/-- The law of the engine: at most 8 deferred entries; each deferred entry needs a page, the busy page while the mark is set; without
the mark no task and no request is left in place; and the tasks with the PASS entries that can still make one are at most 12
(R21, R24, R25, R26). -/
abbrev EngineLaw (s : State) : Prop :=
  s.engine.deferred.length ≤ Config.deferredMax ∧
    (∀ w ∈ s.engine.deferred, w.page.isSome = true ∧ (s.pageBusy.isSome = true → w.page = s.pageBusy)) ∧
    (s.pageBusy = none → (∀ t ∈ s.engine.tasks, t.left = false) ∧ ∀ r ∈ s.engine.pendingSet, r.left = false) ∧
    (s.engine.tasks = [] ∨ s.engine.tasks.length + (s.lanes.toList.map Lane.passCount).sum ≤ 12)

/-! ## Holders of provisional days -/

/-- The admission holds the day of the serial (R44). -/
def Admission.holds (serial day : Nat) (a : Admission) : Bool := a.serial == serial && a.heldDay == some day

/-- The entry is a PASS entry that holds the day of the serial. -/
def Entry.holds (serial day : Nat) (e : Entry) : Bool :=
  match e.kind with
  | .pass a => a.holds serial day
  | .free => false

/-- The deferred work is a task that holds the day of the serial. -/
def Work.holds (serial day : Nat) : Work → Bool
  | .task t => t.pass.holds serial day
  | .request _ => false

/-- The in-flight entries, queued tasks and deferred tasks that hold a day of a serial (R51). -/
def State.holderCount (s : State) (serial day : Nat) : Nat :=
  (s.lanes.toList.map (fun l => l.inflight.countP (Entry.holds serial day))).sum +
    s.engine.tasks.countP (fun t => t.pass.holds serial day) + s.engine.deferred.countP (Work.holds serial day)

/-- The tasks in the queue and the deferred list. -/
def State.allTasks (s : State) : List Task :=
  s.engine.tasks ++ s.engine.deferred.filterMap (fun w => match w with
    | .task t => some t
    | .request _ => none)

/-- A used day that is PROVISIONAL counts exactly its holders, of which it has one at least (R4, R51). -/
def UsedDay.balanced (s : State) (serial : Nat) (u : UsedDay) : Bool :=
  match u.state with
  | .provisional h => decide (1 ≤ h ∧ h = s.holderCount serial u.day)
  | .confirmed => true

/-- An admission's held day, if it has one, stands in its record with a state the predicate allows. -/
def Admission.backed (store : List PassRecord) (ok : DayState → Bool) (a : Admission) : Bool :=
  match a.heldDay with
  | none => true
  | some d => store.any (fun r => r.ent.serial == a.serial && (dayState r.usage.used d).any ok)

/-- An in-flight entry's held day is PROVISIONAL in its record (R44, R51). -/
def Entry.backed (store : List PassRecord) (e : Entry) : Bool :=
  match e.kind with
  | .pass a => a.backed store (fun st => st != .confirmed)
  | .free => true

/-- A task that holds a day is of no record that the write under way drops (R131). -/
def Staging.keeps (st : Staging) (t : Task) : Bool :=
  match st with
  | .committing b w =>
    t.pass.heldDay.isNone || homePage t.pass.serial != b.page || w.image.any (fun q => q.ent.serial == t.pass.serial)
  | .empty => true
  | .opened _ _ => true

/-- Every PROVISIONAL day counts its holders, every entry's held day is PROVISIONAL in its record, every task's held day is in
the list of its record, which no write under way drops, and while the device is STARTING no entry is in flight (R4, R44, R50,
R51, R176). -/
abbrev HolderLaw (s : State) : Prop :=
  StoreLaw s ∧ EngineLaw s ∧ (∀ r ∈ s.store, ∀ u ∈ r.usage.used, u.balanced s r.ent.serial = true) ∧
    (∀ k : LaneId, ∀ e ∈ (s.lane k).inflight, e.backed s.store = true) ∧
    (∀ t ∈ s.allTasks, t.pass.backed s.store (fun _ => true) = true ∧ s.staging.keeps t = true) ∧
    (s.phase = .starting → ∀ k : LaneId, (s.lane k).current = .shut ∧ (s.lane k).inflight = [])

/-! ## Count unit -/

/-- The interval that a closing opens at an aligned boundary or at the substitute 0: no counts and no flags, and its next
boundary an interval length on, or, from the substitute, the first aligned boundary after it (R84, R87, R88). -/
def Interval.opened (intervalMinutes rollover start : Nat) : Interval where
  start := start
  nextBoundary :=
    if ((start : Int) - rollover * 60000) % (intervalMinutes * 60000) = 0 then start + intervalMinutes * 60000
    else boundaryAfter intervalMinutes rollover 0
  lanes := Vector.replicate 6 {}
  refunds := 0
  refundAmount := 0
  gathered := {}

/-- The count unit after a closing with room in the log: the record appended, the next number raised, a new interval (R88, R89). -/
def CountUnit.closedAt (u : CountUnit) (f : Profile) (stop newStart : Nat) (flag : IntervalFlags) : CountUnit :=
  { u with
    interval := Interval.opened f.intervalMinutes f.rollover newStart
    log := u.log ++ [u.interval.close u.nextSeq f.rollover stop flag]
    nextSeq := u.nextSeq + 1 }

/-- The count unit after a closing that a full log has held: the interval stays open, gathers EXTENDED and the closing's flag, and
its next boundary is the first after the held instant (R91). -/
def CountUnit.heldAt (u : CountUnit) (f : Profile) (instant : Nat) (flag : IntervalFlags) : CountUnit :=
  { u with
    interval :=
      { u.interval with
        gathered := { u.interval.gathered.union flag with extended := true }
        nextBoundary := boundaryAfter f.intervalMinutes f.rollover instant } }

/-- What a closing posts: INTERVAL_CLOSED with the record's number and flags, or LOG_FULL with the log's count (R88, R91). -/
def CountUnit.closingPost (u : CountUnit) (flag : IntervalFlags) : NoticeDetail :=
  if u.log.length < 96 then .intervalClosed u.nextSeq (u.interval.gathered.union flag) else .logFull u.log.length

/-- Each lane's lifetime passed total is the passed count of the open interval, those of the log and the released total
together, modulo 2^32 (R98). -/
abbrev CountUnit.conserves (u : CountUnit) : Prop :=
  ∀ k : LaneId, u.lifetime[k.val] = u.interval.lanes[k.val].passed + passedIn k u.log + u.released[k.val]

/-- Sequence numbers rise by one from each entry to the one after it and up to the next number (R90, R118). -/
def consecutive : List Count32 → Count32 → Bool
  | [], _ => true
  | n :: rest, next => (match rest with
      | [] => n + 1 == next
      | m :: _ => n + 1 == m) && consecutive rest next

/-- The interval log: at most 96 records, consecutive in number (R90). -/
abbrev LogLaw (s : State) : Prop :=
  s.count.log.length ≤ Config.logMax ∧ consecutive (s.count.log.map LogRecord.seq) s.count.nextSeq = true

/-- The refund journal: at most 512 records, consecutive in number (R118). -/
abbrev JournalLaw (s : State) : Prop :=
  s.refund.journal.length ≤ Config.journalMax ∧
    consecutive (s.refund.journal.map JournalRecord.seq) s.refund.nextSeq = true

/-! ## Timebase and profile -/

/-- The ranges of the timebase, and what UNSET means for its reference mark and age (R139, R142, R150, R153). -/
abbrev Timebase.lawful (b : Timebase) : Prop :=
  b.time ≤ Config.timeMax ∧ b.fraction < 1000000 ∧ (-250 ≤ b.trim ∧ b.trim ≤ 250) ∧
    (-2000 ≤ b.correction ∧ b.correction ≤ 2000) ∧
    (b.status = .unset ↔ b.refAge = none) ∧ (b.status = .unset ↔ b.refMark = none) ∧
    b.currentDay ≤ Config.dayMax ∧ b.lastKnown ≤ Config.timeMax

/-- The ranges of the profile, and the pass timeout not below the pulse length (R172, R173). -/
abbrev Profile.lawful (f : Profile) : Prop :=
  f.lanesEnabled ≤ 6 ∧ (∀ l : LiftId, f.zoneOf[l.val] ≤ 15) ∧ (∀ l : LiftId, f.passback[l.val] ≤ 3600) ∧
    (100 ≤ f.pulse ∧ f.pulse ≤ 5000) ∧ (2 ≤ f.passTimeout ∧ f.passTimeout ≤ 60) ∧
    f.intervalMinutes ∈ [5, 10, 15, 20, 30, 60] ∧ f.rollover ≤ 1439 ∧ f.stationId ≤ 65535 ∧
    f.pulse ≤ f.passTimeout * 1000

/-! ## Notices -/

/-- The law of a notice queue: no two notices of one kind and subject, every kind in the mask, every repeat count in 1 to 255
(R167, R168, R170). -/
abbrev NoticePort.lawful (n : NoticePort) : Prop :=
  (n.queue.map (fun q => noticeKey q.detail)).Nodup ∧
    ∀ q ∈ n.queue, maskIncludes n.mask q.detail = true ∧ 1 ≤ q.count ∧ q.count ≤ Config.repeatMax

/-- Both station ports' queues keep their law. -/
abbrev NoticeLaw (s : State) : Prop := ∀ i : StationId, (s.noticePort i).lawful

/-! ## Choosing work -/

/-- How far after the pointer a port stands in the cyclic order, 0 to 7 (R23). -/
def distance (pointer p : Port) : Nat := (portIndex p + 7 - portIndex pointer) % 8

/-- The policy looks at port `p` before port `q` (R23). -/
def looksFirst (policy : Policy) (pointer p q : Port) : Prop :=
  match policy with
  | .roundRobin => distance pointer p < distance pointer q
  | .lanesFirst =>
    (isLanePort p = true ∧ isLanePort q = false) ∨ (isLanePort p = isLanePort q ∧ distance pointer p < distance pointer q)
  | .stationFirst =>
    (isLanePort p = false ∧ isLanePort q = true) ∨ (isLanePort p = isLanePort q ∧ distance pointer p < distance pointer q)

/-- The pending set holds at most one entry per port (R20). -/
abbrev Engine.onePerPort (e : Engine) : Prop := (e.pendingSet.map Request.port).Nodup

end Machine

end Sys2Proof
end

