-- ==== Sys2Proof/Certificates/Slice0/Obligations.lean ====
section
/-! DEFINITION. The statements for the provers. Numbers R<n> are the rules of spec/. -/

open Sys2Proof Sys2Proof.Machine

/-! ## The queue of commands -/

/-- A step gives the command at the front of the queue its effect on the state with the queue's rest, and idles on an empty
queue (the model's queue, log entry 1, DESIGN CHOICE). -/
def Obligations.StepRunsTheFrontCommand : Prop :=
  (∀ (c : Instr) (s : State), step { s with pending := c :: s.pending } = exec c s) ∧
    ∀ s : State, s.pending = [] → step s = .next s

/-- Every command completes in every state, and leaves the queue as it is (log entries 1 and 34). -/
def Obligations.EveryCommandCompletes : Prop :=
  ∀ (c : Instr) (s : State), ∃ t, exec c s = .next t ∧ t.pending = s.pending

/-- The device right after reset is the first device reset of a device as it leaves manufacture (log entry 3, DESIGN CHOICE), and every law
of Sys2Proof/Safety.lean holds of it. -/
def Obligations.ResetStateIsLawful : Prop :=
  exec .deviceReset State.factory = .next State.reset ∧ PortLaw State.reset ∧ LaneLaw State.reset ∧
    StoreLaw State.reset ∧ EngineLaw State.reset ∧ HolderLaw State.reset ∧ State.reset.count.conserves ∧
    LogLaw State.reset ∧ JournalLaw State.reset ∧ State.reset.timebase.lawful ∧ State.reset.profile.lawful ∧
    NoticeLaw State.reset

/-! ## Frames -/

/-- The frame of a well-formed request command, behind any fill and before any further bytes of its select period, spells
that command (R155, R164). -/
def Obligations.FramesSpellTheirCommands : Prop :=
  ∀ (i : Instr) (p : Port) (frame rest : List Byte) (n : Nat), i.wellFormed = true → encode i = some (p, frame) →
    commandOfPeriod p (List.replicate n 0 ++ frame ++ rest) = some i

/-- A period of fill alone is no command, and a frame that is not sound is a frame error of its cause (R155). The bits of data-in
are assembled most significant first, eight a byte: whatever whole bytes a select period carries, and however few bits follow
them, what arrives is the command its bytes spell, as soon as they spell it whole, and the period's end. An edge without select
changes nothing. A device reset ends the assembly of a period that spans it: edges are ignored until the device is READY, and then
every byte up to the next start mark, with which a new assembly begins. All of this holds whether or not a response goes out
meanwhile: the two directions are independent, the response's bits are counted beside data-in, and its end arrives among the
commands, once, with its last bit (R154, R155, R160, R163; the lines beside the commands by log entry 41, DESIGN CHOICE, and so is
that an edge which completes both brings the request before the response's end; the edges and bytes skipped in a spanned period,
DEDUCED there). -/
def Obligations.UnsoundFramesAreFrameErrors : Prop :=
  (∀ (p : Port) (n : Nat) (bytes : List Byte),
    let fill : List Byte := List.replicate n 0
    commandOfPeriod p fill = none ∧
    (∀ b : Byte, b ≠ 0 → b ≠ 0xA5 → commandOfPeriod p (fill ++ b :: bytes) = some (.frameError p .badStart)) ∧
    commandOfPeriod p (fill ++ [0xA5]) = some (.frameError p .truncated) ∧
    (∀ len : Byte, 240 < len.toNat →
      commandOfPeriod p (fill ++ 0xA5 :: len :: bytes) = some (.frameError p .oversize)) ∧
    (∀ len : Byte, len.toNat ≤ 240 → bytes.length < len.toNat + 4 →
      commandOfPeriod p (fill ++ 0xA5 :: len :: bytes) = some (.frameError p .truncated)) ∧
    ∀ (kind tag : Byte) (body crc : List Byte), body.length ≤ 240 → crc.length = 2 →
      crc ≠ crcBytes (BitVec.ofNat 8 body.length :: kind :: tag :: body) →
      commandOfPeriod p (fill ++ 0xA5 :: BitVec.ofNat 8 body.length :: kind :: tag :: (body ++ crc ++ bytes)) =
        some (.frameError p .badCrc)) ∧
  (∀ b : Byte, byteOfBits (bitsOf b) = b ∧ (bitsOf b).length = 8 ∧ (bitsOf b).head? = some b.msb) ∧
  (∀ (s : State) (p : Port) (x : Bool), (s.port p).line = .idle → s.clockEdge p x = s) ∧
  let whole := fun (s : State) (p : Port) => ((s.dataOut p).flatMap bitsOf).length
  let finishes := fun (s : State) (p : Port) (edges : Nat) =>
    (s.port p).sending = true ∧ (s.port p).sent < whole s p ∧ whole s p ≤ (s.port p).sent + edges
  let clocks := fun (s t : State) (p : Port) (edges : Nat) (ln : Line) (cs : List Instr) =>
    t =
      { s.setPort p
          { s.port p with
            line := ln, sent := if (s.port p).sending = true then (s.port p).sent + edges else (s.port p).sent } with
        pending := s.pending ++ cs } ∧
    (finishes s p edges → cs.count (.responseClockedOut p) = 1) ∧
    (¬ finishes s p edges → cs.count (.responseClockedOut p) = 0)
  let requests := fun (p : Port) (cs : List Instr) => cs.filter (fun c => c != .responseClockedOut p)
  (∀ (s : State) (p : Port) (bytes : List Byte) (part : List Bool), part.length < 8 →
    (s.port p).line = .collecting [] [] →
    let xs := bytes.flatMap bitsOf ++ part
    (∃ ln cs, clocks s ((s.clockBits p xs).selectOff p) p xs.length ln (cs ++ [.selectPeriodEnd p]) ∧
      requests p cs = (commandOfPeriod p bytes).toList) ∧
    ∀ c, commandOfPeriod p bytes = some c → c ≠ .frameError p .truncated →
      ∃ cs, clocks s (s.clockBits p (bytes.flatMap bitsOf)) p (8 * bytes.length) .ignoring cs ∧ requests p cs = [c] ∧
        ((∀ d, commandOfPeriod p bytes.dropLast = some d → d = .frameError p .truncated) → finishes s p (8 * bytes.length) →
          cs =
            if (s.port p).sent + 8 * bytes.length = whole s p then [c, .responseClockedOut p]
            else [.responseClockedOut p, c])) ∧
  ∀ (s : State) (p : Port), (s.port p).line = .spanned [] →
    (s.phase = .starting →
      ∀ xs : List Bool, ∃ cs, clocks s (s.clockBits p xs) p xs.length (.spanned []) cs ∧ requests p cs = []) ∧
    (s.phase = .ready → ∀ bytes : List Byte, (∀ b ∈ bytes, b ≠ 0xA5) →
      (∃ cs, clocks s (s.clockBits p (bytes.flatMap bitsOf)) p (8 * bytes.length) (.spanned []) cs ∧ requests p cs = []) ∧
      ∃ cs, clocks s (s.clockBits p ((bytes ++ [0xA5]).flatMap bitsOf)) p (8 * bytes.length + 8) (.collecting [0xA5] []) cs ∧
        requests p cs = [])

/-! ## Link ports -/

/-- A request at a port with a pending request and a free position reserves a BUSY response; with both positions taken a
request or a frame error is discarded; a frame error finds a free position behind what is there (R157). An accepted request
is judged by its port before any block sees it: an unlisted kind is UNKNOWN_KIND, a kind the class of port does not permit
NOT_PERMITTED, and any other NOT_READY while the device is STARTING, each with an empty body and nothing else changed
(R158). -/
def Obligations.PortsAnswerBeforeAnyBlock : Prop :=
  ((∀ (c : Instr) (s : State) (p : Port) (kind tag : Byte), c.parts = some (p, kind, tag) →
    ((s.port p).hasPending = true → (s.port p).isFull = false →
      exec c s = .next (s.setPort p ((s.port p).take (.busy kind tag)))) ∧
    ((s.port p).isFull = true → exec c s = .next s)) ∧
  ∀ (s : State) (p : Port) (cause : FrameFault),
    ((s.port p).isFull = false → exec (.frameError p cause) s = .next (s.answered p 0 0 .frameError [])) ∧
    ((s.port p).isFull = true → exec (.frameError p cause) s = .next s)) ∧
  ((∀ k : Kind, (∀ j, permitted k (.lane j) = true ↔ k = .admitPass ∨ k = .laneStatus ∨ k = .portReset) ∧
    ∀ i, permitted k (.station i) = true ↔ k ≠ .admitPass) ∧
  ∀ (c : Instr) (s : State) (p : Port) (kind tag : Byte), c.wellFormed = true → c.parts = some (p, kind, tag) →
    PortFree s p →
    (Kind.ofCode kind = none → exec c s = .next (s.answered p kind tag .unknownKind [])) ∧
    ∀ k, Kind.ofCode kind = some k →
      (permitted k p = false → exec c s = .next (s.answered p kind tag .notPermitted [])) ∧
      (permitted k p = true → s.phase = .starting → exec c s = .next (s.answered p kind tag .notReady [])))

/-- A permitted request of an engine kind, at a free port of a READY device, takes a response position, joins the pending set
with its kind, tag and body, and changes nothing else (R20, R157, R158). -/
def Obligations.EngineRequestsJoinThePendingSet : Prop :=
  ∀ (c : Instr) (s : State) (p : Port) (k : Kind) (tag : Byte) (body : List Byte),
    c.engineParts = some (p, k, tag, body) → Open s p → permitted k p = true →
    let r : Request := { port := p, kind := k, tag := tag, body := body, left := false }
    ∃ set : List Request, (r :: s.engine.pendingSet).Perm set ∧
      exec c s =
        .next
          { s.setPort p ((s.port p).take (.reserved k.code tag)) with
            engine := { s.engine with pendingSet := set } }

/-- A response frame is its start mark, the body's length, kind, tag, outcome code, body and CRC. A select period sends the
first position's response if that is ready when it starts, and fill otherwise; the response leaves its position only when it
has been clocked out whole, and stays when the period ends before (R159, R160). Each edge of clock presents the next bit of that
response, most significant first, and then fill; with the last of them RESPONSE_CLOCKED_OUT arrives, once; outside a period
data-out shows no bit (R154, R160; the bits beside the commands by log entry 41, DESIGN CHOICE). -/
def Obligations.SelectPeriodsCarryOneResponse : Prop :=
  (∀ r : Response,
    let covered := beBytes 2 r.body.length ++ [r.kind, r.tag, r.code.byte] ++ r.body
    r.frame = [0x5A] ++ covered ++ crcBytes covered) ∧
  (∀ (s : State) (p : Port), (s.port p).selected = false → s.dataOutBit p = none) ∧
  ∀ (s : State) (p : Port),
    (∀ r rest, (s.port p).positions = .ready r :: rest →
      ∃ t ps, exec (.selectPeriodStart p) s = .next t ∧ t = s.setPort p ps ∧ t.dataOut p = r.frame ∧
        ps.positions = (s.port p).positions ∧ ps.selected = true ∧
        (∃ u qs, exec (.responseClockedOut p) t = .next u ∧ u = s.setPort p qs ∧ qs.positions = rest ∧
          u.dataOut p = []) ∧
        (∃ u qs, exec (.selectPeriodEnd p) t = .next u ∧ u = s.setPort p qs ∧
          qs.positions = (s.port p).positions ∧ u.dataOut p = [] ∧ qs.selected = false) ∧
        ∀ xs : List Bool,
          (t.clockBits p xs).dataOutBit p = some ((r.frame.flatMap bitsOf).getD xs.length false) ∧
          ∃ cs, (t.clockBits p xs).pending = t.pending ++ cs ∧
            cs.count (.responseClockedOut p) = if 8 * r.frame.length ≤ xs.length then 1 else 0) ∧
    ((s.port p).firstReady = false →
      ∃ t ps, exec (.selectPeriodStart p) s = .next t ∧ t = s.setPort p ps ∧ t.dataOut p = [] ∧
        ps.positions = (s.port p).positions ∧ exec (.responseClockedOut p) t = .next t ∧
        ∀ xs : List Bool, (t.clockBits p xs).dataOutBit p = some false)

/-- The attention line of a lane port is its first position's readiness; that of a station port is also asserted for a queued
notice; a ready response behind a reserved position does not assert it; after a device reset it is deasserted (R161). -/
def Obligations.AttentionLinesFollowPositionsAndNotices : Prop :=
  (∀ (s : State) (k : LaneId), s.attention (.lane k) = (s.port (.lane k)).firstReady) ∧
  (∀ (s : State) (i : StationId), s.attention (.station i) = true ↔
    (s.port (.station i)).firstReady = true ∨ (s.noticePort i).queue ≠ []) ∧
  (∀ (ps : PortState) (kind tag : Byte) (rest : List Position), ps.positions = .reserved kind tag :: rest →
    ps.firstReady = false) ∧
  ∀ (s t : State) (p : Port), exec .deviceReset s = .next t → t.attention p = false

/-- PORT RESET discards the port's responses and its request and readies its OK response. Of a station port, its notice queue
is empty under every kind, an OPEN buffer it owns is abandoned and a commit it owns disowned; of a lane port, its lane has a
LINK_RESET cause, which forces SELF or OBSERVE to ATTENDED and posts LANE_STATE where it changed anything; everything else
stands, tasks and in-flight entries included (R27, R60, R62, R83, R137, R162, R171). A request of the port that the engine has
just taken is served to its completion after the reset, and its response dropped; so an ADMIT in service places its entry in a
lane already forced to ATTENDED, where it waits and the record keeps its changes (R27, R45, R47, R162; the order as an operand of
the command by log entry 40, DESIGN CHOICE; the port's queue emptied before the ABANDONED post of the same reset by log entry 42,
DESIGN CHOICE; the holder count of that record's day without R4's bound of 12 by log entry 35, DESIGN CHOICE). -/
def Obligations.PortResetEffect : Prop :=
  (∀ (s : State) (i : StationId) (tag : Byte) (body : List Byte), ∃ t,
    exec (.portReset (.station i) tag ⟨body, .withdrawalFirst⟩) s = .next t ∧
    (t.port (.station i)).positions = [.ready { kind := 0x03, tag := tag, code := .ok, body := [] }] ∧
    t.dataOut (.station i) = [] ∧ (∀ q, q ≠ .station i → t.port q = s.port q) ∧
    t.engine =
      { s.engine with
        pendingSet := s.engine.pendingSet.filter (fun r => r.port != .station i)
        deferred := s.engine.deferred.filter (fun w => !w.isOf (.station i)) } ∧
    t.noticePort i = { queue := [], mask := 0x03FF } ∧ (∀ j, j ≠ i → t.noticePort j = s.noticePort j) ∧
    (s.staging = .empty → t.staging = .empty ∧ t.postsInFlight = s.postsInFlight) ∧
    (∀ b mark, s.staging = .opened b mark →
      (b.owner = i → t.staging = .empty ∧ t.postsInFlight = s.postsInFlight ++ [.staging b.page .abandoned]) ∧
      (b.owner ≠ i → t.staging = s.staging ∧ t.postsInFlight = s.postsInFlight)) ∧
    (∀ b w, s.staging = .committing b w → t.postsInFlight = s.postsInFlight ∧
      t.staging = .committing b { w with disowned := w.disowned || b.owner == i }) ∧
    t.store = s.store ∧ t.refund = s.refund ∧ t.lanes = s.lanes ∧ t.count = s.count ∧ t.timebase = s.timebase ∧
    t.profile = s.profile ∧ t.phase = s.phase ∧ t.elapsed = s.elapsed ∧ t.restartDue = s.restartDue ∧
    t.countsInFlight = s.countsInFlight) ∧
  (∀ (s : State) (k : LaneId) (tag : Byte) (body : List Byte), ∃ t,
    exec (.portReset (.lane k) tag ⟨body, .withdrawalFirst⟩) s = .next t ∧
    (t.port (.lane k)).positions = [.ready { kind := 0x03, tag := tag, code := .ok, body := [] }] ∧
    t.dataOut (.lane k) = [] ∧ (∀ q, q ≠ .lane k → t.port q = s.port q) ∧
    t.engine =
      { s.engine with
        pendingSet := s.engine.pendingSet.filter (fun r => r.port != .lane k)
        deferred := s.engine.deferred.filter (fun w => !w.isOf (.lane k)) } ∧
    t.lane k =
      { s.lane k with
        errorFlag := true
        firstCause := if (s.lane k).errorFlag then (s.lane k).firstCause else some .linkReset
        causeLink := true
        current :=
          if (s.lane k).current = .self ∨ (s.lane k).current = .observe then .attended else (s.lane k).current
        output := if (s.lane k).current = .observe then false else (s.lane k).output } ∧
    (∀ j, j ≠ k → t.lane j = s.lane j) ∧
    t.postsInFlight = s.postsInFlight ++ (if t.lane k = s.lane k then [] else [(t.lane k).stateDetail k]) ∧
    t.staging = s.staging ∧ t.notices = s.notices ∧ t.store = s.store ∧ t.refund = s.refund ∧ t.count = s.count ∧
    t.timebase = s.timebase ∧ t.profile = s.profile ∧ t.phase = s.phase ∧ t.elapsed = s.elapsed ∧
    t.restartDue = s.restartDue ∧ t.countsInFlight = s.countsInFlight) ∧
  (∀ (s : State) (p : Port) (tag : Byte) (body : List Byte),
    (∀ (s1 u : State) (r : Request), s.dayDue = false → s.engine.nextTask = none → r.port = p →
      (s.pageBusy = none ∧ ∃ rest, s.engine.deferred = .request r :: rest ∧
        s1 = { s with engine := { s.engine with deferred := rest } }) ∨
      ((s.pageBusy ≠ none ∨ s.engine.deferred = []) ∧ s.engine.choose s.profile.policy = some r ∧
        (∀ op, engineOp r.kind r.body = some op → s.meetsBusy op.needs = false) ∧
        s1 =
          { s with
            engine := { s.engine with pendingSet := s.engine.pendingSet.filter (fun q => q.port != p), pointer := p } }) →
      exec (.portReset p tag ⟨body, .withdrawalFirst⟩) s1 = .next u →
      (∀ op, engineOp r.kind r.body = some op →
        exec (.portReset p tag ⟨body, .serviceFirst⟩) s = .next ((serveOp u p op).finish p)) ∧
      (engineOp r.kind r.body = none → exec (.portReset p tag ⟨body, .serviceFirst⟩) s = .next u)) ∧
    (s.engine.nextTask ≠ none ∨
        ((∀ r ∈ s.engine.pendingSet, r.port ≠ p) ∧ ∀ w ∈ s.engine.deferred, w.isOf p = false) →
      exec (.portReset p tag ⟨body, .serviceFirst⟩) s = exec (.portReset p tag ⟨body, .withdrawalFirst⟩) s)) ∧
  ∀ (s : State) (k : LaneId) (tag : Byte) (body : List Byte) (r : Request) (serial : Nat) (q : PassRecord) (consumed : Bool),
    s.dayDue = false → s.engine.nextTask = none → (s.pageBusy ≠ none ∨ s.engine.deferred = []) →
    s.engine.choose s.profile.policy = some r → r.port = .lane k → r.kind = .admitPass → r.body = beBytes 4 serial →
    serial < 2 ^ 32 → s.pageBusy ≠ some (serial % 2048) →
    ((s.lane k).current = .self ∨ (s.lane k).current = .attended) → (s.lane k).inflight.length < 2 →
    0 < s.profile.passTimeout → s.record serial = some q →
    verdict (s.admitCtx k) (some q) = (if consumed then .consume else .reride) →
    ∃ t e a, exec (.portReset (.lane k) tag ⟨body, .serviceFirst⟩) s = .next t ∧ (t.lane k).current = .attended ∧
      (t.lane k).inflight = (s.lane k).inflight ++ [e] ∧ e.kind = .pass a ∧ a.serial = serial ∧ e.release = none ∧
      t.record serial = some { q with usage := q.usage.admitHeld (s.admitCtx k) } ∧
      (t.port (.lane k)).positions = [.ready { kind := 0x03, tag := tag, code := .ok, body := [] }]

/-- At every port the positions stay lawful, and the pending request stays held exactly once, by the pending set, the deferred
list or the commit being written, until its response is ready (R20, R27, R157, R159). -/
def Obligations.PortLawIsKept : Prop := ∀ s t : State, PortLaw s → step s = .next t → PortLaw t

/-! ## Resets and start-up -/

/-- STATION RESTART readies its OK response and makes a device reset due, at the earlier of a mark already due and 1,000 ms
from now; the reset takes effect at that mark, or at the end of the select period that has clocked the response out whole;
a request with a body is BAD_ARGUMENT (R177; the earlier mark by log entry 29, DEDUCED). -/
def Obligations.StationRestartBecomesDue : Prop :=
  (∀ (s : State) (i : StationId) (tag : Byte) (body : List Byte), Open s (.station i) →
    (body = [] → exec (.stationRestart (.station i) tag body) s =
      .next
        (({ s with
            restartDue :=
              some (match s.restartDue with
                | none => s.elapsed + 1000
                | some m => min m (s.elapsed + 1000)) } : State).answered (.station i) 0x70 tag .ok [])) ∧
    (body ≠ [] → exec (.stationRestart (.station i) tag body) s =
      .next (s.answered (.station i) 0x70 tag .badArgument []))) ∧
  (∀ (s : State) (m : Nat), s.restartDue = some m → m ≤ s.elapsed → exec .restartDueExpiry s = .next (deviceReset s)) ∧
  (∀ (s : State) (m : Nat), s.restartDue = some m → s.elapsed < m → exec .restartDueExpiry s = .next s) ∧
  (∀ s : State, s.restartDue = none → exec .restartDueExpiry s = .next s) ∧
  ∀ (s : State) (p : Port) (tag : Byte) (rest : List Position) (m : Nat), s.restartDue = some m →
    (s.port p).positions = .ready { kind := 0x70, tag := tag, code := .ok, body := [] } :: rest →
    (s.port p).sending = true →
    ∃ t, exec (.responseClockedOut p) s = .next t ∧
      exec (.selectPeriodEnd p) t = .next (deviceReset (t.setPort p { t.port p with line := .idle }))

/-- What a device reset leaves: the volatile parts of every block at their reset values, the non-volatile ones kept, every
PROVISIONAL day CONFIRMED, and the open interval closed with INTERRUPTED at the last-known time, or held on a full log (R15,
R28, R83, R84, R87, R91, R95, R99, R121, R138, R153, R163, R171, R176; one command for reset, scan and closing by log entry 4,
DEDUCED, the sensor levels by log entry 5, DESIGN CHOICE, no TIMEBASE post by log entry 39, DEDUCED, a port whose select period
spans the reset by log entry 41, DEDUCED). -/
def Obligations.DeviceResetLeaves : Prop :=
  ∀ s : State, ∃ t, exec .deviceReset s = .next t ∧
    t.phase = .starting ∧ t.elapsed = 0 ∧ t.restartDue = none ∧ t.staging = .empty ∧
    t.engine = { pendingSet := [], tasks := [], deferred := [], pointer := .station 1 } ∧
    (∀ p, t.port p =
      { positions := [], selected := false, sending := false, sent := 0, restartSent := false
        line := if (s.port p).line = .idle then .idle else .spanned [] }) ∧
    (∀ i, t.noticePort i = { queue := [], mask := 0x03FF }) ∧ t.countsInFlight = [] ∧
    (∀ k, t.lane k =
      { current := .shut, requested := .shut, errorFlag := false, firstCause := none, causeSensor := false
        causeLink := false, inflight := [], output := false, sequencer := .idle, score := 0
        sensorA := { level := (s.lane k).sensorA.level, lastRise := 0, lastFall := 0, stuck := none }
        sensorB := { level := (s.lane k).sensorB.level, lastRise := 0, lastFall := 0, stuck := none } }) ∧
    t.timebase =
      { time := s.timebase.lastKnown, fraction := 0, trim := s.timebase.trim, correction := 0, slewDue := 0
        withheld := 0, status := .unset, refMark := none, refAge := none, currentDay := s.timebase.currentDay
        lastKnown := s.timebase.lastKnown, lastKnownDue := 60000 } ∧
    t.profile = s.profile ∧ t.refund = s.refund ∧
    t.store =
      s.store.map (fun r =>
        { r with usage := { r.usage with used := r.usage.used.map (fun u => { u with state := .confirmed }) } }) ∧
    t.count.lifetime = s.count.lifetime ∧ t.count.released = s.count.released ∧
    (s.count.log.length < 96 →
      let flags := s.count.interval.gathered.union { interrupted := true }
      t.count.log = s.count.log ++
        [s.count.interval.close s.count.nextSeq s.profile.rollover s.timebase.lastKnown { interrupted := true }] ∧
      t.count.nextSeq = s.count.nextSeq + 1 ∧
      t.count.interval.start =
        boundaryAtOrBefore s.profile.intervalMinutes s.profile.rollover s.timebase.lastKnown ∧
      t.count.interval =
        Interval.opened s.profile.intervalMinutes s.profile.rollover t.count.interval.start ∧
      (∀ k : LaneId, t.count.interval.lanes[k.val] = {}) ∧ t.count.interval.refunds = 0 ∧
      t.count.interval.refundAmount = 0 ∧ t.count.interval.gathered = {} ∧
      t.postsInFlight = [.intervalClosed s.count.nextSeq flags]) ∧
    (96 ≤ s.count.log.length →
      t.count.log = s.count.log ∧ t.count.nextSeq = s.count.nextSeq ∧
      t.count.interval =
        { s.count.interval with
          gathered := { s.count.interval.gathered with extended := true, interrupted := true }
          nextBoundary := boundaryAfter s.profile.intervalMinutes s.profile.rollover s.timebase.lastKnown } ∧
      t.postsInFlight = [.logFull s.count.log.length])

/-- When start-up ends, STARTING becomes READY, every used day of every record is CONFIRMED and nothing else of a record changes,
each enabled lane begins to take edges with its sequencer IDLE and a stuck episode for a sensor found high, and nothing else
changes; outside STARTING the event does nothing (R5, R73, R80, R176; the scan made again at this event by log entry 4,
DEDUCED). -/
def Obligations.StartupEndsReady : Prop :=
  (∀ s : State, s.phase = .starting → ∃ t, exec .startupComplete s = .next t ∧
    t.store =
      s.store.map (fun r =>
        { r with usage := { r.usage with used := r.usage.used.map (fun u => { u with state := .confirmed }) } }) ∧
    (∀ r ∈ t.store, ∀ u ∈ r.usage.used, u.state = .confirmed) ∧
    (∀ k : LaneId, k.val < s.profile.lanesEnabled →
      t.lane k =
        { s.lane k with
          sequencer := .idle
          sensorA :=
            { (s.lane k).sensorA with
              stuck :=
                if (s.lane k).sensorA.level then some { mark := s.elapsed, counted := false }
                else (s.lane k).sensorA.stuck }
          sensorB :=
            { (s.lane k).sensorB with
              stuck :=
                if (s.lane k).sensorB.level then some { mark := s.elapsed, counted := false }
                else (s.lane k).sensorB.stuck } }) ∧
    (∀ k : LaneId, s.profile.lanesEnabled ≤ k.val → t.lane k = s.lane k) ∧
    t = { s with phase := .ready, store := t.store, lanes := t.lanes }) ∧
  ∀ s : State, s.phase = .ready → exec .startupComplete s = .next s

/-! ## Table engine -/

/-- The engine takes the oldest task that can be taken, else with the page-busy mark clear the oldest deferred entry, else
the pending entry the policy chooses, and is idle when there is none. A chosen request whose body is of no form is answered
BAD_ARGUMENT, one whose page is not busy is served; either way it leaves the pending set and the pointer moves to its port.
Work that needs the busy page is not served: with fewer than 8 deferred entries it joins the deferred list, a request moving
the pointer; with 8 it is left in place and the pointer stays (R19, R20, R22, R23, R24). Where a day change is due, the taking
is the one from the state after that change (R34, R104, R150; log entry 11, DEDUCED). The body of a BAD_ARGUMENT echoes the serial
of ADMIT and of the refund requests and carries the lock state of TARIFF LOCK; every other field is zero bytes of its width (R48,
R103, R115, R166; zeros where a rule names no content, log entry 15, DEDUCED; a serial held by a body of four bytes or more, log
entry 16, DEDUCED; the widths of the tariff bodies, log entries 19 and 36, DEDUCED, and that of PAGE COMMIT, log entry 30,
DEDUCED). -/
def Obligations.EngineTakesWorkInOrder : Prop :=
  (∀ s : State, s.dayDue = false →
    (∀ t, s.engine.tasks.find? (fun t => !t.left) = some t → s.meetsBusy (pageOfSerial t.pass.serial) = false →
      exec .engineTakeWork s = .next (serveTask { s with engine := s.engine.dropTask } t)) ∧
    (s.engine.nextTask = none → s.pageBusy = none → ∀ w rest, s.engine.deferred = w :: rest →
      exec .engineTakeWork s = .next (serveWork { s with engine := { s.engine with deferred := rest } } w)) ∧
    (s.engine.nextTask = none → (s.pageBusy ≠ none ∨ s.engine.deferred = []) →
      (s.engine.choose s.profile.policy = none → exec .engineTakeWork s = .next s) ∧
      ∀ r, s.engine.choose s.profile.policy = some r →
        let s1 : State :=
          { s with
            engine :=
              { s.engine with pendingSet := s.engine.pendingSet.filter (fun q => q.port != r.port), pointer := r.port } }
        (engineOp r.kind r.body = none →
          exec .engineTakeWork s =
            .next (s1.respond r.port .badArgument (engineBadBody s.refund.locked r.kind r.body))) ∧
        ∀ op, engineOp r.kind r.body = some op → s.meetsBusy op.needs = false →
          exec .engineTakeWork s = .next ((serveOp s1 r.port op).finish r.port))) ∧
  (∀ (s : State) (page : Nat), s.dayDue = false → s.pageBusy = some page →
    (∀ t, s.engine.nextTask = some t → pageOfSerial t.pass.serial = some page →
      (s.engine.deferred.length < 8 → exec .engineTakeWork s =
        .next
          { s with
            engine :=
              { s.engine with
                tasks := s.engine.tasks.eraseP (fun q => !q.left), deferred := s.engine.deferred ++ [.task t] } }) ∧
      (8 ≤ s.engine.deferred.length → ∃ before after,
        s.engine.tasks = before ++ t :: after ∧ (∀ q ∈ before, q.left = true) ∧
        exec .engineTakeWork s =
          .next { s with engine := { s.engine with tasks := before ++ { t with left := true } :: after } })) ∧
    (∀ r op, s.engine.nextTask = none → s.engine.choose s.profile.policy = some r →
      engineOp r.kind r.body = some op → op.needs = some page →
      (s.engine.deferred.length < 8 → exec .engineTakeWork s =
        .next
          { s with
            engine :=
              { s.engine with
                pendingSet := s.engine.pendingSet.filter (fun q => q.port != r.port)
                pointer := r.port
                deferred := s.engine.deferred ++ [.request r] } }) ∧
      (8 ≤ s.engine.deferred.length → exec .engineTakeWork s =
        .next
          { s with
            engine :=
              { s.engine with
                pendingSet := s.engine.pendingSet.map (fun q => if q.port = r.port then { q with left := true } else q) } }))) ∧
  (∀ s : State, s.dayDue = true → ∃ t, exec .dayChange s = .next t ∧ t.dayDue = false ∧
    t.timebase.currentDay = operatingDay s.profile.rollover s.timebase.time ∧ t.refund.locked = false ∧
    exec .engineTakeWork s = exec .engineTakeWork t) ∧
  ∀ (locked : Bool) (body : List Byte),
    let echoed := if 4 ≤ body.length then body.take 4 else zeros 4
    let bad := fun (k : Kind) => engineBadBody locked k body
    bad .admitPass = echoed ++ zeros 7 ∧ bad .refundQuote = echoed ++ zeros 23 ∧ bad .refundCommit = echoed ++ zeros 23 ∧
    bad .tariffLock = [if locked then 1 else 0] ∧
    ∀ k n,
      (k, n) ∈
        [(Kind.passRead, 40), (.block, 6), (.unblock, 6), (.pageOpen, 3), (.recordPut, 9), (.recordDrop, 5), (.stagingRead, 7),
         (.pageCommit, 12), (.pageAbandon, 2), (.tariffPut, 52), (.tariffRead, 53), (.journalRead, 11), (.journalRelease, 8)] →
      bad k = List.replicate n 0

/-- The engine's requests have one form each: a body of the form spells its operands, and a body of another length, with an
operand out of its range, spells none, which is answered BAD_ARGUMENT. (R16, R17, R33, R101, R102, R112, R113, R120, R124, R125,
R126, R127; the layouts of R164 and R166; the parts an absence flag leaves unread by log entry 18, DEDUCED, the widths of a
tariff class by log entries 19 and 36, DEDUCED, and a present or lapsed byte above 01h, which spells none, by log entry 17,
DEDUCED.) -/
def Obligations.EngineBodiesSpellTheirOperands : Prop :=
  (∀ serial : Nat, serial < 2 ^ 32 →
    engineOp .admitPass (beBytes 4 serial) = some (.admitPass serial) ∧
    engineOp .passRead (beBytes 4 serial) = some (.passRead serial) ∧
    engineOp .block (beBytes 4 serial) = some (.block serial) ∧
    engineOp .unblock (beBytes 4 serial) = some (.unblock serial) ∧
    engineOp .recordDrop (beBytes 4 serial) = some (.recordDrop serial) ∧
    engineOp .journalRead (beBytes 4 serial) = some (.journalRead (BitVec.ofNat 32 serial)) ∧
    engineOp .journalRelease (beBytes 4 serial) = some (.journalRelease (BitVec.ofNat 32 serial)) ∧
    (∀ asked, asked < 256 → engineOp .refundQuote (beBytes 4 serial ++ beBytes 1 asked) =
      if asked ≤ 14 then some (.refundQuote serial asked) else none) ∧
    ∀ days expected, days < 256 → expected < 2 ^ 24 →
      engineOp .refundCommit (beBytes 4 serial ++ beBytes 1 days ++ beBytes 3 expected) =
        if 1 ≤ days ∧ days ≤ 14 then some (.refundCommit serial days expected) else none) ∧
  (∀ page, page < 65536 → engineOp .pageOpen (beBytes 2 page) = if page ≤ 2047 then some (.pageOpen page) else none) ∧
  (∀ n, n < 256 → engineOp .stagingRead (beBytes 1 n) = if n ≤ 31 then some (.stagingRead n) else none) ∧
  (∀ c : Fin 64, engineOp .tariffRead (beBytes 1 c.val) = some (.tariffRead c)) ∧
  (∀ c, 64 ≤ c → c < 256 → engineOp .tariffRead (beBytes 1 c) = none ∧
    ∀ fields : List Byte, engineOp .tariffPut (beBytes 1 c ++ fields) = none) ∧
  engineOp .pageCommit [] = some .pageCommit ∧ engineOp .pageAbandon [] = some .pageAbandon ∧
  engineOp .tariffLock [] = some .tariffLock ∧
  (∀ e : Entitlement, e.serial < 2 ^ 32 → e.classNo < 256 → e.firstDay < 65536 → e.window < 256 → e.rideDays < 256 →
    e.paid < 2 ^ 24 → (∀ h, e.hours = some h → h.fromMinute < 65536 ∧ h.toMinute < 65536) →
    engineOp .recordPut (entitlementBytes e) =
      if 1 ≤ e.serial ∧ e.classNo ≤ 63 ∧ e.firstDay ≤ 1023 ∧ 1 ≤ e.window ∧ e.window ≤ 28 ∧ 1 ≤ e.rideDays ∧
          e.rideDays ≤ 14 ∧ e.rideDays ≤ e.window ∧
          (∀ h ∈ e.hours, h.fromMinute < h.toMinute ∧ h.toMinute ≤ 1440) then
        some (.recordPut e)
      else none) ∧
  (∀ (c : Fin 64) (cls : TariffClass), (∀ i : Fin 14, cls.prices[i.val] < 2 ^ 24) → cls.feeMin < 65536 →
    cls.feePermille < 65536 → cls.step < 65536 → cls.capPermille < 65536 →
    engineOp .tariffPut (beBytes 1 c.val ++ tariffBytes cls) = some (.tariffPut c cls)) ∧
  (∀ (c : Byte) (fields : List Byte), 2 ≤ (fields.getD 0 0).toNat ∨ 2 ≤ (fields.getD 51 0).toNat →
    engineOp .tariffPut (c :: fields) = none) ∧
  ∀ (k : Kind) (body : List Byte) (op : EngineOp), engineOp k body = some op →
    (k, body.length) ∈
      [(Kind.admitPass, 4), (.passRead, 4), (.block, 4), (.unblock, 4), (.pageOpen, 2), (.recordPut, 19), (.recordDrop, 4),
       (.stagingRead, 1), (.pageCommit, 0), (.pageAbandon, 0), (.tariffPut, 53), (.tariffRead, 1), (.tariffLock, 0),
       (.refundQuote, 5), (.refundCommit, 8), (.journalRead, 4), (.journalRelease, 4)]

/-- The policy chooses, of the eligible entries, the one whose port it looks at first from the pointer: the nearest after it,
and under LANES_FIRST or STATION_FIRST the nearest of the preferred class if that has one; it chooses none only when none is
eligible. An entry is eligible unless it was left in place for the busy page, or is an ADMIT while the task queue holds any task, one
left waiting included (R22, R23). -/
def Obligations.PolicyChoosesTheFirstPort : Prop :=
  (∀ (e : Engine) (r : Request),
    e.eligible r = true ↔ r.left = false ∧ (r.kind = .admitPass → ∀ t : Task, t ∉ e.tasks)) ∧
  ∀ (e : Engine) (policy : Policy), e.onePerPort →
    (e.choose policy = none ↔ ∀ r ∈ e.pendingSet, e.eligible r = false) ∧
    ∀ r, e.choose policy = some r ↔
      r ∈ e.pendingSet ∧ e.eligible r = true ∧
        ∀ q ∈ e.pendingSet, e.eligible q = true → q ≠ r → looksFirst policy e.pointer r.port q.port

/-- The engine's law is kept: never more than 8 deferred entries, each for the busy page while there is one; nothing left in
place without a busy page; and never more than 12 tasks, counting the PASS entries that can still make one (R21, R24, R25,
R26). -/
def Obligations.EngineLawIsKept : Prop :=
  ∀ s t : State, LaneLaw s → EngineLaw s → step s = .next t → EngineLaw t

/-- While a page is being written, no piece of engine work changes which serials it holds or any of their usage parts, and
the write stays as it was begun (R14). -/
def Obligations.BusyPageStandsStill : Prop :=
  ∀ (s t : State) (b : Buffer) (w : PageWrite), s.staging = .committing b w → exec .engineTakeWork s = .next t →
    (∃ b', t.staging = .committing b' w ∧ b'.page = b.page ∧ b'.owner = b.owner) ∧
    (pageRecords t.store b.page).map (fun r => (r.ent.serial, r.usage)) =
      (pageRecords s.store b.page).map (fun r => (r.ent.serial, r.usage))

/-! ## Admission -/

/-- The check order from the record on: UNKNOWN_PASS, BLOCKED, NOT_YET_VALID, EXPIRED, ZONE, HOURS, PASSBACK, then a re-ride
where the day is used, else REFUNDED or NO_DAYS_LEFT without a day remaining, else the day is consumed (R35, R37, R39, R40,
R41, R42). What it reads is station time, the operating day, the minute of day, the lane's lift, and the zone and the passback
interval of that lift (R34). -/
def Obligations.AdmitCheckOrder : Prop :=
  (∀ (s : State) (k : LaneId), s.admitCtx k =
    { time := s.timebase.time
      day := if s.timebase.status = .unset then s.timebase.currentDay else operatingDay s.profile.rollover s.timebase.time
      minute := s.timebase.time % 86400000 / 60000
      lift := s.profile.liftOf[k.val]
      zone := s.profile.zoneOf[s.profile.liftOf[k.val].val]
      passback := s.profile.passback[s.profile.liftOf[k.val].val] }) ∧
  ∀ c : AdmitCtx, verdict c none = .refused .unknownPass ∧
    ∀ r : PassRecord,
      let zoneBad := ∃ m, r.ent.zones = some m ∧ m.getLsbD c.zone = false
      let hoursBad := ∃ h, r.ent.hours = some h ∧ ¬ (h.fromMinute ≤ c.minute ∧ c.minute < h.toMinute)
      let passbackBad := ∃ st, r.usage.stamp = some st ∧ 0 < c.passback ∧ st.lift = c.lift ∧ st.time ≤ c.time ∧
        c.time - st.time < c.passback * 1000
      let dayUsed := ∃ u ∈ r.usage.used, u.day = c.day
      let valid := r.ent.firstDay ≤ c.day ∧ c.day ≤ r.ent.firstDay + r.ent.window - 1
      let pass := r.ent.blocked = false ∧ valid ∧ ¬ zoneBad ∧ ¬ hoursBad ∧ ¬ passbackBad
      (r.ent.blocked = true → verdict c (some r) = .refused .blocked) ∧
      (r.ent.blocked = false → c.day < r.ent.firstDay → verdict c (some r) = .refused .notYetValid) ∧
      (r.ent.blocked = false → r.ent.firstDay ≤ c.day → r.ent.firstDay + r.ent.window - 1 < c.day →
        verdict c (some r) = .refused .expired) ∧
      (r.ent.blocked = false → valid → zoneBad → verdict c (some r) = .refused .zone) ∧
      (r.ent.blocked = false → valid → ¬ zoneBad → hoursBad → verdict c (some r) = .refused .hours) ∧
      (r.ent.blocked = false → valid → ¬ zoneBad → ¬ hoursBad → passbackBad →
        verdict c (some r) = .refused .passback) ∧
      (pass → dayUsed → verdict c (some r) = .reride) ∧
      (pass → ¬ dayUsed → r.usage.used.length + r.usage.refundedDays < r.ent.rideDays →
        verdict c (some r) = .consume) ∧
      (pass → ¬ dayUsed → r.ent.rideDays ≤ r.usage.used.length + r.usage.refundedDays →
        verdict c (some r) = .refused (if 0 < r.usage.refundedDays then .refunded else .noDaysLeft))

/-- An ADMIT that is refused changes no record and no lane: LANE_SHUT and WAIT leave everything as it was, a refusal of the
record sends a refused count event (R35, R36, R47, R48, R49). -/
def Obligations.RefusedAdmitsCountOnly : Prop :=
  ∀ (s : State) (k : LaneId) (serial : Nat),
    let l := s.lane k
    (l.current = .shut → serveOp s (.lane k) (.admitPass serial) =
      .answered { state := s, code := .laneShut, body := beBytes 4 serial ++ zeros 7 }) ∧
    (l.current = .self ∨ l.current = .attended → 2 ≤ l.inflight.length → serveOp s (.lane k) (.admitPass serial) =
      .answered { state := s, code := .wait, body := beBytes 4 serial ++ zeros 7 }) ∧
    (l.current ≠ .shut → (l.current = .observe ∨ l.inflight.length < 2) →
      (s.record serial = none → serveOp s (.lane k) (.admitPass serial) =
        .answered
          { state := { s with countsInFlight := s.countsInFlight ++ [.refused k] }
            code := .unknownPass
            body := beBytes 4 serial ++ zeros 7 }) ∧
      ∀ r code, s.record serial = some r → verdict (s.admitCtx k) (some r) = .refused code →
        serveOp s (.lane k) (.admitPass serial) =
          .answered
            { state := { s with countsInFlight := s.countsInFlight ++ [.refused k] }
              code := code
              body :=
                beBytes 4 serial ++ [0, 0] ++ beBytes 1 (ridesFor r.usage s.opDay) ++ beBytes 1 r.remaining ++
                  beBytes 2 (r.ent.firstDay + r.ent.window - 1) ++ beBytes 1 r.ent.classNo })

/-- An ADMITTED outcome in SELF or ATTENDED: the stamp, rides today and the used day of the record, and one PASS entry at the
end of the list with what it notes, released at once as a head in SELF; nothing else changes (R43, R44, R48, R63, R64). That the
holder count rises by one without R4's bound of 12, to 13 from a count of 12, is the model's choice (log entry 35, DESIGN
CHOICE). -/
def Obligations.AdmissionPlacesAnEntry : Prop :=
  ∀ (s : State) (k : LaneId) (serial : Nat) (r : PassRecord) (consumed : Bool),
    let l := s.lane k
    let d := s.opDay
    let count : Nat :=
      match r.usage.rides with
      | some rt => if rt.day = d then min 255 (rt.count + 1) else 1
      | none => 1
    let stamp : Stamp := { time := s.timebase.time, lift := s.profile.liftOf[k.val] }
    let u : Usage :=
      { r.usage with
        stamp := some stamp
        rides := some { day := d, count := count }
        used :=
          match dayState r.usage.used d with
          | none => insertDay { day := d, state := .provisional 1 } r.usage.used
          | some (.provisional h) => setDay r.usage.used d (.provisional (h + 1))
          | some .confirmed => r.usage.used }
    let released := l.inflight = [] ∧ l.current = .self
    let entry : Entry :=
      { kind :=
          .pass
            { serial := serial
              stampSet := stamp
              heldDay := if dayState r.usage.used d = some .confirmed then none else some d
              priorStamp := r.usage.stamp
              priorRides := r.usage.rides }
        admissionTime := s.timebase.time
        admissionMark := s.elapsed
        admissionTimeout := s.profile.passTimeout * 1000
        release :=
          if released then
            some { mark := s.elapsed, timeout := s.profile.passTimeout * 1000, pulse := s.profile.pulse }
          else none }
    (l.current = .self ∨ l.current = .attended) → l.inflight.length < 2 → 0 < s.profile.passTimeout →
    s.record serial = some r → verdict (s.admitCtx k) (some r) = (if consumed then .consume else .reride) →
    serveOp s (.lane k) (.admitPass serial) =
      .answered
        { state :=
            ({ s with
              store := s.store.map (fun q => if q.ent.serial = serial then { q with usage := u } else q) } : State).setLane
              k
              { l with
                inflight := l.inflight ++ [entry]
                output := if l.inflight = [] then l.current == .self else l.output }
          code := .admitted
          body :=
            beBytes 4 serial ++ boolByte consumed ++ [if l.inflight = [] then 1 else 2] ++
              beBytes 1 count ++ beBytes 1 ({ r with usage := u } : PassRecord).remaining ++
              beBytes 2 (r.ent.firstDay + r.ent.window - 1) ++ beBytes 1 r.ent.classNo }

/-- An ADMITTED outcome in OBSERVE changes stamp and rides today, consumes a day as CONFIRMED and leaves a used day as it is;
no in-flight entry is made, nothing is noted and no task follows (R46). -/
def Obligations.ObserveAdmissionSettlesTheDay : Prop :=
  (∀ (u : UsedDay) (used : List UsedDay), used.Pairwise (fun x y => x.day < y.day) → (∀ v ∈ used, v.day ≠ u.day) →
    (insertDay u used).Pairwise (fun x y => x.day < y.day) ∧ (u :: used).Perm (insertDay u used)) ∧
  ∀ (s : State) (k : LaneId) (serial : Nat) (r : PassRecord) (consumed : Bool),
    let d := s.opDay
    let count : Nat :=
      match r.usage.rides with
      | some rt => if rt.day = d then min 255 (rt.count + 1) else 1
      | none => 1
    let u : Usage :=
      { r.usage with
        stamp := some { time := s.timebase.time, lift := s.profile.liftOf[k.val] }
        rides := some { day := d, count := count }
        used := if consumed then insertDay { day := d, state := .confirmed } r.usage.used else r.usage.used }
    (s.lane k).current = .observe → s.record serial = some r →
    verdict (s.admitCtx k) (some r) = (if consumed then .consume else .reride) →
    serveOp s (.lane k) (.admitPass serial) =
      .answered
        { state := { s with store := s.store.map (fun q => if q.ent.serial = serial then { q with usage := u } else q) }
          code := .admitted
          body :=
            beBytes 4 serial ++ boolByte consumed ++ [0] ++ beBytes 1 count ++
              beBytes 1 ({ r with usage := u } : PassRecord).remaining ++
              beBytes 2 (r.ent.firstDay + r.ent.window - 1) ++ beBytes 1 r.ent.classNo }

/-- A CONFIRM turns its PROVISIONAL held day CONFIRMED and clears the held day of every other entry of that serial and day, on
all lanes; without the record, a held day, or the day as PROVISIONAL it changes nothing. A VOID restores stamp and rides today
together if the stamp is still the admission's, and takes one holder from its PROVISIONAL held day, which leaves the list
with the last; without the record it does nothing. Served before any other work on the pass, it leaves the usage part as it
was before the admission (R50, R51, R52, R53, R54). -/
def Obligations.TasksSettleTheirDay : Prop :=
  (∀ (s : State) (k : LaneId) (a : Admission) (left : Bool),
    let task : Task := { kind := .confirm, lane := k, pass := a, left := left }
    (∀ r d h, StoreLaw s → s.record a.serial = some r → a.heldDay = some d →
      dayState r.usage.used d = some (.provisional h) →
      ∃ t, serveTask s task = t ∧
        t.store =
          s.store.map (fun q =>
            if q.ent.serial = a.serial then
              { q with
                usage :=
                  { q.usage with
                    used := q.usage.used.map (fun u => if u.day = d then { u with state := .confirmed } else u) } }
            else q) ∧
        (∀ (j : LaneId) (n : Nat) (e : Entry), (s.lane j).inflight[n]? = some e →
          ∃ e', (t.lane j).inflight[n]? = some e' ∧
            (e.holds a.serial d = false → e' = e) ∧
            (∀ q, e.kind = .pass q → e.holds a.serial d = true →
              e' = { e with kind := .pass { q with heldDay := none } })) ∧
        (∀ j : LaneId, t.lane j = { s.lane j with inflight := (t.lane j).inflight } ∧
          (t.lane j).inflight.length = (s.lane j).inflight.length) ∧
        t = { s with store := t.store, lanes := t.lanes }) ∧
    ((s.record a.serial = none ∨ a.heldDay = none ∨
      ∃ r d, s.record a.serial = some r ∧ a.heldDay = some d ∧
        (dayState r.usage.used d = some .confirmed ∨ dayState r.usage.used d = none)) →
      serveTask s task = s)) ∧
  (∀ (u : Usage) (a : Admission),
    let v := u.void a
    (u.stamp = some a.stampSet → v.stamp = a.priorStamp ∧ v.rides = a.priorRides) ∧
    (u.stamp ≠ some a.stampSet → v.stamp = u.stamp ∧ v.rides = u.rides) ∧
    (∀ d h, a.heldDay = some d → dayState u.used d = some (.provisional h) →
      v.used =
        if h ≤ 1 then u.used.filter (fun x => x.day != d)
        else u.used.map (fun x => if x.day = d then { x with state := .provisional (h - 1) } else x)) ∧
    ((a.heldDay = none ∨
      ∃ d, a.heldDay = some d ∧ (dayState u.used d = some .confirmed ∨ dayState u.used d = none)) → v.used = u.used) ∧
    v.refundedDays = u.refundedDays ∧ v.refundedTotal = u.refundedTotal) ∧
  (∀ (c : AdmitCtx) (r : PassRecord), r.usage.used.Pairwise (fun x y => x.day < y.day) →
    (∀ u ∈ r.usage.used, u.state ≠ .provisional 0) →
    (r.usage.admitHeld c).void (admissionOf c r) = r.usage) ∧
  ∀ (s : State) (k : LaneId) (a : Admission) (left : Bool),
    let task : Task := { kind := .void, lane := k, pass := a, left := left }
    (s.record a.serial = none → serveTask s task = s) ∧
    ∀ r, s.record a.serial = some r →
      serveTask s task =
        { s with
          store := s.store.map (fun q => if q.ent.serial = a.serial then { q with usage := q.usage.void a } else q) }

/-- The holder count of every PROVISIONAL day is kept equal to the number of in-flight entries, queued tasks and deferred
tasks that hold that serial and day, with what the equality rests on (R44, R50, R51, R53). That the count follows its holders past
R4's bound of 12 is the model's choice (log entry 35, DESIGN CHOICE). -/
def Obligations.HolderLawIsKept : Prop :=
  ∀ s t : State, LaneLaw s → HolderLaw s → step s = .next t → HolderLaw t

/-! ## Reads and the pass store -/

/-- What the engine's reading requests answer, and that they change nothing: PASS READ, TARIFF READ, JOURNAL READ, and a
STAGING READ but for the idle timer of an owner's OPEN buffer (R16, R102, R120, R127, R130). The model's choices in the bodies:
TARIFF READ carries no class number and two bytes each for fee_min and step (log entries 19 and 36, DEDUCED), the owner's own
STAGING READ reports the 120 seconds of the timer it restarts (log entry 23, DEDUCED), and in EMPTY page and owner are zero
bytes without a presence flag (log entry 38, DEDUCED). -/
def Obligations.EngineReadsChangeNothing : Prop :=
  ∀ (s : State) (i : StationId),
    (∀ serial r, s.record serial = some r → serveOp s (.station i) (.passRead serial) =
      .answered { state := s, code := .ok, body := recordBytes r }) ∧
    (∀ serial, s.record serial = none → serveOp s (.station i) (.passRead serial) =
      .answered { state := s, code := .unknownPass, body := beBytes 4 serial ++ zeros 36 }) ∧
    (∀ c : Fin 64, serveOp s (.station i) (.tariffRead c) =
      .answered { state := s, code := .ok, body := tariffBytes s.refund.tariff[c.val] ++ boolByte s.refund.locked }) ∧
    (∀ n : Count32, ∃ skipped sent rest, s.refund.journal = skipped ++ (sent ++ rest) ∧
      (∀ j ∈ skipped, ¬ (j.seq - n).toNat < 2 ^ 31) ∧
      (∀ j, sent.head? = some j → (j.seq - n).toNat < 2 ^ 31) ∧
      sent.length ≤ 4 ∧ (rest ≠ [] → sent.length = 4) ∧
      serveOp s (.station i) (.journalRead n) =
        .answered
          { state := s
            code := .ok
            body :=
              beBytes 1 sent.length ++ beBytes 2 s.refund.journal.length ++
                beBytes 4 ((s.refund.journal.map JournalRecord.seq).headD s.refund.nextSeq).toNat ++
                beBytes 4 s.refund.nextSeq.toNat ++ sent.flatMap journalBytes }) ∧
    (∀ position, ∃ t body, serveOp s (.station i) (.stagingRead position) =
        .answered { state := t, code := .ok, body := body } ∧
      (s.staging = .empty → t = s ∧ body = zeros 7) ∧
      (∀ b mark, s.staging = .opened b mark →
        t = { s with staging := .opened b (if b.owner = i then s.elapsed else mark) } ∧
        body = beBytes 1 1 ++ beBytes 2 b.page ++ beBytes 1 (6 + b.owner.val) ++ beBytes 1 b.entries.length ++
          beBytes 1 (droppedRecords s.store b).length ++
          beBytes 1 ((if b.owner = i then 120000 else mark + 120000 - s.elapsed) / 1000) ++
          ((b.entries.drop position).take 4).flatMap stagedBytes) ∧
      ∀ b w, s.staging = .committing b w →
        t = s ∧
        body = beBytes 1 2 ++ beBytes 2 b.page ++ beBytes 1 (6 + b.owner.val) ++ beBytes 1 b.entries.length ++
          beBytes 1 (droppedRecords s.store b).length ++ beBytes 1 0 ++
          ((b.entries.drop position).take 4).flatMap stagedBytes)

/-- BLOCK and UNBLOCK write the flag in the live record and in the staged entry, whichever hold the serial, and nothing else,
also while the page is being written; without either they answer UNKNOWN_PASS (R11, R17, R18; the
body of UNKNOWN_PASS by log entry 30, DEDUCED). -/
def Obligations.BlockWritesEveryCopy : Prop :=
  ∀ (s : State) (i : StationId) (serial : Nat) (flag : Bool),
    let op : EngineOp := if flag then .block serial else .unblock serial
    let live := ∃ r ∈ s.store, r.ent.serial = serial
    let staged := ∃ b, s.staging.buffer = some b ∧ b.page = serial % 2048 ∧ ∃ e ∈ b.entries, e.ent.serial = serial
    (serial = 0 ∨ (¬ live ∧ ¬ staged) → serveOp s (.station i) op =
      .answered { state := s, code := .unknownPass, body := beBytes 4 serial ++ [0, 0] }) ∧
    (serial ≠ 0 → live ∨ staged → ∃ t copies, serveOp s (.station i) op =
        .answered { state := t, code := .ok, body := beBytes 4 serial ++ boolByte flag ++ [copies] } ∧
      (copies = 0 ↔ live ∧ ¬ staged) ∧ (copies = 1 ↔ ¬ live ∧ staged) ∧ (copies = 2 ↔ live ∧ staged) ∧
      t.store =
        s.store.map (fun r => if r.ent.serial = serial then { r with ent := { r.ent with blocked := flag } } else r) ∧
      (staged → t.staging =
        s.staging.mapEntries (fun es =>
          es.map (fun e => if e.ent.serial = serial then { e with ent := { e.ent with blocked := flag } } else e))) ∧
      (¬ staged → t.staging = s.staging) ∧ t = { s with store := t.store, staging := t.staging })

/-- The pass store keeps its form, every record's used days stay within its window and its ride-days and its refunds within its
price, and the staging buffer keeps agreeing with the store (R4, R6, R9, R10, R114, R122, R129, R131, R133). -/
def Obligations.StoreLawIsKept : Prop :=
  ∀ s t : State, StoreLaw s → EngineLaw s → step s = .next t → StoreLaw t

/-! ## Staging buffer -/

/-- PAGE OPEN copies an EMPTY buffer's page and starts its timer, and is STAGING_HELD otherwise; PAGE ABANDON of the owner and
the end of the idle timer empty an OPEN buffer and post ABANDONED; the checks of the buffer's state come first (R123, R124,
R128, R130). -/
def Obligations.BufferOpensAndEmpties : Prop :=
  ∀ (s : State) (i : StationId),
    (∀ page, s.staging = .empty → serveOp s (.station i) (.pageOpen page) =
      .answered
        { state :=
            { s with
              staging :=
                .opened
                  { page := page
                    owner := i
                    entries :=
                      (s.store.filter (fun r => r.ent.serial % 2048 == page)).map
                        (fun r => { ent := r.ent, mark := .copied }) }
                  s.elapsed }
          code := .ok
          body :=
            beBytes 2 page ++ beBytes 1 (s.store.filter (fun r => r.ent.serial % 2048 == page)).length }) ∧
    (∀ page, s.staging ≠ .empty → serveOp s (.station i) (.pageOpen page) =
      .answered { state := s, code := .stagingHeld, body := zeros 3 }) ∧
    (s.staging = .empty → serveOp s (.station i) .pageAbandon =
      .answered { state := s, code := .stagingEmpty, body := zeros 2 }) ∧
    (∀ b w, s.staging = .committing b w → serveOp s (.station i) .pageAbandon =
      .answered { state := s, code := .committing, body := zeros 2 }) ∧
    (∀ b mark, s.staging = .opened b mark → b.owner ≠ i → serveOp s (.station i) .pageAbandon =
      .answered { state := s, code := .stagingHeld, body := zeros 2 }) ∧
    (∀ b mark, s.staging = .opened b mark → b.owner = i → serveOp s (.station i) .pageAbandon =
      .answered
        { state :=
            { s with staging := .empty, postsInFlight := s.postsInFlight ++ [.staging b.page .abandoned] }
          code := .ok
          body := beBytes 2 b.page }) ∧
    (∀ b mark, s.staging = .opened b mark → mark + 120000 ≤ s.elapsed → exec .idleTimerEnd s =
      .next { s with staging := .empty, postsInFlight := s.postsInFlight ++ [.staging b.page .abandoned] }) ∧
    (∀ b mark, s.staging = .opened b mark → s.elapsed < mark + 120000 → exec .idleTimerEnd s = .next s) ∧
    ((∀ b mark, s.staging ≠ .opened b mark) → exec .idleTimerEnd s = .next s)

/-- RECORD PUT of the owner: WRONG_PAGE, PAGE_FULL, or one staged entry of the serial with the entitlement sent, REPLACED when
a live record is there and NEW when not, the others as before. RECORD DROP of the owner: NOT_FOUND without a staged entry of
the serial, and otherwise that entry alone is removed, the ones after it moving up; the live records stand, and one of the
page that had an entry becomes a record to be dropped. The idle timer starts anew each time (R122, R125, R126, R130). Before
that, both are STAGING_EMPTY in EMPTY, COMMITTING while a page is being written, and STAGING_HELD for the port that does not own
the buffer, and change nothing, the idle timer included (R123, R134; the bodies of the refusals by log entry 30, DEDUCED). -/
def Obligations.RecordPutAndDropEditOneEntry : Prop :=
  (∀ (s : State) (b : Buffer) (mark : Nat) (e : Entitlement), s.staging = .opened b mark →
    (e.serial % 2048 ≠ b.page → serveOp s (.station b.owner) (.recordPut e) =
      .answered
        { state := { s with staging := .opened b s.elapsed }
          code := .wrongPage
          body := beBytes 4 e.serial ++ zeros 2 ++ beBytes 1 b.entries.length ++ beBytes 2 b.page }) ∧
    (e.serial % 2048 = b.page → (∀ q ∈ b.entries, q.ent.serial ≠ e.serial) → 32 ≤ b.entries.length →
      serveOp s (.station b.owner) (.recordPut e) =
        .answered
          { state := { s with staging := .opened b s.elapsed }
            code := .pageFull
            body := beBytes 4 e.serial ++ zeros 2 ++ beBytes 1 b.entries.length ++ beBytes 2 b.page }) ∧
    (e.serial % 2048 = b.page → b.entries.Pairwise (fun x y => x.ent.serial < y.ent.serial) →
      (∃ q ∈ b.entries, q.ent.serial = e.serial) ∨ b.entries.length < 32 →
      ∃ before after : List Staged,
        let m : StagedMark := if s.record e.serial = none then .new else .replaced
        let entries := before ++ { ent := e, mark := m } :: after
        (∀ q ∈ before, q.ent.serial < e.serial) ∧ (∀ q ∈ after, e.serial < q.ent.serial) ∧
        before ++ after = b.entries.filter (fun q => q.ent.serial != e.serial) ∧
        serveOp s (.station b.owner) (.recordPut e) =
          .answered
            { state := { s with staging := .opened { b with entries := entries } s.elapsed }
              code := .ok
              body :=
                beBytes 4 e.serial ++ beBytes 1 (if s.record e.serial = none then 2 else 1) ++
                  beBytes 1 before.length ++ beBytes 1 entries.length ++ beBytes 2 b.page })) ∧
  (∀ (s : State) (b : Buffer) (mark serial : Nat), s.staging = .opened b mark →
    ((∀ e ∈ b.entries, e.ent.serial ≠ serial) → serveOp s (.station b.owner) (.recordDrop serial) =
      .answered
        { state := { s with staging := .opened b s.elapsed }
          code := .notFound
          body := beBytes 4 serial ++ beBytes 1 b.entries.length }) ∧
    ∀ before e after, b.entries = before ++ e :: after → e.ent.serial = serial →
      b.entries.Pairwise (fun x y => x.ent.serial < y.ent.serial) →
      let b' : Buffer := { b with entries := before ++ after }
      serveOp s (.station b.owner) (.recordDrop serial) =
        .answered
          { state := { s with staging := .opened b' s.elapsed }
            code := .ok
            body := beBytes 4 serial ++ beBytes 1 (before ++ after).length } ∧
      ∀ r ∈ s.store, r.ent.serial = serial → r.ent.serial % 2048 = b.page → r ∈ droppedRecords s.store b') ∧
  ∀ (s : State) (i : StationId) (e : Entitlement) (serial : Nat),
    let refused := fun (code : Code) =>
      serveOp s (.station i) (.recordPut e) = .answered { state := s, code := code, body := zeros 9 } ∧
        serveOp s (.station i) (.recordDrop serial) = .answered { state := s, code := code, body := zeros 5 }
    (s.staging = .empty → refused .stagingEmpty) ∧ (∀ b w, s.staging = .committing b w → refused .committing) ∧
    ∀ b mark, s.staging = .opened b mark → b.owner ≠ i → refused .stagingHeld

/-- PAGE COMMIT of the owner is CONFLICT at the first record of the page, in serial order, whose usage does not fit its
REPLACED entry (DAYS, WINDOW, PAID, in that order) or that is dropped with a PROVISIONAL day; without a conflict the write
begins, with the page built from the staged entries and the live usage, and no answer yet (R131, R133). Before that it is
STAGING_EMPTY, COMMITTING or STAGING_HELD by the state and the owner of the buffer, and changes nothing, the idle timer included
(R123, R134). That a CONFLICT carries serial and reason in one body of 12 bytes with zeros for the counts is the model's choice
(log entry 30, DEDUCED). -/
def Obligations.CommitConflictsOrBeginsItsWrite : Prop :=
  (∀ (es : List Staged) (r : PassRecord),
    ((∀ e ∈ es, e.ent.serial ≠ r.ent.serial) →
      recordConflict es r = if hasProvisional r.usage.used then some .provisional else none) ∧
    ∀ e ∈ es, e.ent.serial = r.ent.serial → es.Pairwise (fun x y => x.ent.serial < y.ent.serial) →
      (e.mark ≠ .replaced → recordConflict es r = none) ∧
      (e.mark = .replaced →
        (recordConflict es r = some .days ↔ e.ent.rideDays < r.usage.used.length + r.usage.refundedDays) ∧
        (recordConflict es r = some .window ↔
          r.usage.used.length + r.usage.refundedDays ≤ e.ent.rideDays ∧
            ∃ u ∈ r.usage.used, u.day < e.ent.firstDay ∨ e.ent.firstDay + e.ent.window - 1 < u.day) ∧
        (recordConflict es r = some .paid ↔
          r.usage.used.length + r.usage.refundedDays ≤ e.ent.rideDays ∧
            (∀ u ∈ r.usage.used, e.ent.firstDay ≤ u.day ∧ u.day ≤ e.ent.firstDay + e.ent.window - 1) ∧
            e.ent.paid < r.usage.refundedTotal) ∧
        recordConflict es r ≠ some .provisional)) ∧
  (∀ (s : State) (b : Buffer) (mark : Nat), s.staging = .opened b mark →
    (∀ before r after reason, pageRecords s.store b.page = before ++ r :: after →
      (∀ q ∈ before, recordConflict b.entries q = none) → recordConflict b.entries r = some reason →
      serveOp s (.station b.owner) .pageCommit =
        .answered
          { state := { s with staging := .opened b s.elapsed }
            code := .conflict
            body := beBytes 4 r.ent.serial ++ beBytes 1 (conflictCode reason) ++ zeros 7 }) ∧
    ((∀ q ∈ pageRecords s.store b.page, recordConflict b.entries q = none) →
      serveOp s (.station b.owner) .pageCommit =
        .begun
          { s with
            staging :=
              .committing b
                { image :=
                    b.entries.map (fun e =>
                      { ent := e.ent
                        usage :=
                          match e.mark, s.record e.ent.serial with
                          | .new, _ => {}
                          | _, some r => r.usage
                          | _, none => {} })
                  disowned := false } }) ∧
    ∀ i : StationId, b.owner ≠ i → serveOp s (.station i) .pageCommit =
      .answered { state := s, code := .stagingHeld, body := zeros 12 }) ∧
  ∀ (s : State) (i : StationId),
    (s.staging = .empty → serveOp s (.station i) .pageCommit =
      .answered { state := s, code := .stagingEmpty, body := zeros 12 }) ∧
    ∀ b w, s.staging = .committing b w → serveOp s (.station i) .pageCommit =
      .answered { state := s, code := .committing, body := zeros 12 }

/-- The completion of a page write. With success the page holds exactly the records written, with the blocked flags of their
entries, no other page changes, and the buffer is EMPTY; with verify failure the store stands and the buffer is OPEN again,
or EMPTY for a disowned commit. Either way work left in place becomes eligible, the owner's response is made ready unless
disowned, and STAGING is posted (R13, R18, R26, R135, R136, R137). Without a write the event does nothing. That both bodies stand
behind 5 zero bytes for the serial and the reason of a CONFLICT is the model's choice (log entry 30, DEDUCED), and so is that the
completion may come at any time (log entry 32, DEDUCED). -/
def Obligations.WriteCompletionSettlesThePage : Prop :=
  (∀ (s : State) (b : Buffer) (w : PageWrite), s.staging = .committing b w →
    let engine : Engine :=
      { s.engine with
        tasks := s.engine.tasks.map (fun t => { t with left := false })
        pendingSet := s.engine.pendingSet.map (fun r => { r with left := false }) }
    let counts := fun m => (b.entries.filter (fun e => e.mark == m)).length
    let okBody :=
      zeros 5 ++ beBytes 2 b.page ++ beBytes 1 b.entries.length ++ beBytes 1 (counts .copied) ++
        beBytes 1 (counts .replaced) ++ beBytes 1 (counts .new) ++
        beBytes 1 (droppedRecords s.store b).length
    (∃ t : State,
      let u : State :=
        { s with
          store := t.store
          staging := .empty
          engine := engine
          postsInFlight := s.postsInFlight ++ [.staging b.page .committed] }
      exec (.writeCompletion .success) s = .next t ∧
      t = (if w.disowned then u else u.respond (.station b.owner) .ok okBody) ∧
      (StoreLaw s →
        pageRecords t.store b.page =
          w.image.map (fun q =>
            match b.entries.find? (fun e => e.ent.serial == q.ent.serial) with
            | some e => { q with ent := { q.ent with blocked := e.ent.blocked } }
            | none => q) ∧
        ∀ page, page ≠ b.page → pageRecords t.store page = pageRecords s.store page)) ∧
    let v : State :=
      { s with
        staging := if w.disowned then .empty else .opened b s.elapsed
        engine := engine
        postsInFlight := s.postsInFlight ++ [.staging b.page .failed] }
    exec (.writeCompletion .verifyFailure) s =
      .next
        (if w.disowned then v
        else v.respond (.station b.owner) .writeFailed (zeros 5 ++ beBytes 2 b.page ++ zeros 5))) ∧
  ∀ (s : State) (result : WriteResult), s.pageBusy = none → exec (.writeCompletion result) s = .next s

/-! ## Refunds and the tariff -/

/-- The stages of the refund arithmetic. Refundable days: the unused days, or the smaller of those and the days of the
window still to come. Gross: what was paid and not yet paid back above the price of the pass that is kept, clamped at 0. Fee:
the larger of fee_min and the share rounded up. Net: the gross less the fee, clamped at 0, and no more than the cap leaves.
Amount: the net rounded down to the step; a quote reports an amount of 0 as OK where a commit is ZERO_REFUND (R106, R108,
R109, R110, R111). -/
def Obligations.RefundsFollowTheirStages : Prop :=
  (∀ (c : TariffClass) (r : PassRecord) (d : Nat),
    let k := refundableDays c r d
    let last := r.ent.firstDay + r.ent.window - 1
    let unused := r.ent.rideDays - r.usage.used.length - r.usage.refundedDays
    k ≤ unused ∧ (c.lapsed = true → k = unused) ∧
    (c.lapsed = false →
      (d < r.ent.firstDay → k = min unused r.ent.window) ∧
      (r.ent.firstDay ≤ d → last < d → k = 0) ∧
      (r.ent.firstDay ≤ d → d ≤ last →
        ((∃ u ∈ r.usage.used, u.day = d) → k = min unused (last - d)) ∧
        ((∀ u ∈ r.usage.used, u.day ≠ d) → k = min unused (last - d + 1))))) ∧
  (∀ (c : TariffClass) (g : Nat),
    let fee := refundFee c g
    c.feeMin ≤ fee ∧ g * c.feePermille ≤ fee * 1000 ∧ (fee = c.feeMin ∨ fee * 1000 < g * c.feePermille + 1000) ∧
    (c.feePermille = 0 → c.feeMin = 0 → g - fee = g) ∧ (c.feePermille = 50 → c.feeMin ≤ 1171 → refundFee c 23401 = 1171)) ∧
  (∀ (c : TariffClass) (r : PassRecord) (j : Nat),
    let f := figuresFor c r j
    let m := r.ent.rideDays - r.usage.refundedDays
    let cap := f.capLeft + min r.usage.refundedTotal (r.ent.paid * c.capPermille / 1000)
    (m = j → (f.gross : Int) = max 0 ((r.ent.paid : Int) - r.usage.refundedTotal)) ∧
    (∀ i : Fin 14, m = j + i.val + 1 →
      (f.gross : Int) = max 0 ((r.ent.paid : Int) - r.usage.refundedTotal - c.prices[i.val])) ∧
    f.fee = refundFee c f.gross ∧
    cap * 1000 ≤ r.ent.paid * c.capPermille ∧ r.ent.paid * c.capPermille < (cap + 1) * 1000 ∧
    (c.capPermille = 1000 → cap = r.ent.paid) ∧ (c.capPermille = 0 → f.amount = 0) ∧
    (cap ≤ r.usage.refundedTotal → f.capLeft = 0) ∧
    f.amount ≤ f.capLeft ∧ f.amount ≤ f.gross - f.fee ∧
    (1 ≤ c.step → f.amount % c.step = 0 ∧ min (f.gross - f.fee) f.capLeft < f.amount + c.step) ∧
    (c.step = 1 → f.amount = min (f.gross - f.fee) f.capLeft)) ∧
  ∀ (s : State) (p : Port) (serial j : Nat) (r : PassRecord),
    let c := s.tariffOf r.ent.classNo
    let k := refundableDays c r s.opDay
    s.record serial = some r → r.ent.blocked = false → s.refund.locked = true → c.present = true →
    1 ≤ j → j ≤ k → s.refund.journal.length < 512 → (figuresFor c r j).amount = 0 →
    (serveQuote s serial j).code = .ok ∧ (serveCommit s p serial j 0).code = .zeroRefund

/-- Refund requests are refused by the first check that holds, and a refusal or a quote changes nothing: UNKNOWN_PASS,
BLOCKED, NOT_LOCKED, NO_TARIFF, NOTHING_REFUNDABLE, and for a commit JOURNAL_FULL, STALE, ZERO_REFUND; a quote is OK with
the figures of its days (R107, R112, R113, R115). -/
def Obligations.RefundRequestsAreCheckedInOrder : Prop :=
  ∀ (s : State) (i : StationId) (serial asked days expected : Nat),
    let quote := serveOp s (.station i) (.refundQuote serial asked)
    let commit := serveOp s (.station i) (.refundCommit serial days expected)
    let both := fun (code : Code) (body : List Byte) =>
      quote = .answered { state := s, code := code, body := body } ∧
        commit = .answered { state := s, code := code, body := body }
    (s.record serial = none → both .unknownPass (beBytes 4 serial ++ zeros 23)) ∧
    ∀ r, s.record serial = some r →
      let c := s.tariffOf r.ent.classNo
      let k := refundableDays c r s.opDay
      let body := fun (kk j : Nat) (f : Figures) =>
        refundBytes serial kk j f 0 r.usage.refundedDays r.usage.refundedTotal r.remaining
      (r.ent.blocked = true → both .blocked (body 0 0 Figures.none)) ∧
      (r.ent.blocked = false → s.refund.locked = false → both .notLocked (body 0 0 Figures.none)) ∧
      (r.ent.blocked = false → s.refund.locked = true → c.present = false → both .noTariff (body 0 0 Figures.none)) ∧
      (r.ent.blocked = false → s.refund.locked = true → c.present = true → k = 0 →
        both .nothingRefundable (body 0 0 Figures.none)) ∧
      (r.ent.blocked = false → s.refund.locked = true → c.present = true → 0 < k →
        let j := if asked = 0 then k else min asked k
        let f := figuresFor c r (min days k)
        let refused := fun (code : Code) =>
          commit = .answered { state := s, code := code, body := body k (min days k) f }
        quote = .answered { state := s, code := .ok, body := body k j (figuresFor c r j) } ∧
        (512 ≤ s.refund.journal.length → refused .journalFull) ∧
        (s.refund.journal.length < 512 → k < days ∨ f.amount ≠ expected → refused .stale) ∧
        (s.refund.journal.length < 512 → days ≤ k → f.amount = expected → expected = 0 → refused .zeroRefund))

/-- An accepted REFUND COMMIT raises r and RT, appends the journal record with the next sequence number, sends the refund
event and posts REFUND_COMMITTED, and JOURNAL_HIGH from 448 records on; nothing else changes (R114, R115, R117, R118, R119). That
REFUND_COMMITTED stands before JOURNAL_HIGH, and is taken before it, is the model's choice: R168 orders the posts of one event, and
R114 says that the two need no order (log entry 33, DESIGN CHOICE). -/
def Obligations.CommitMakesTheRefund : Prop :=
  ∀ (s : State) (i : StationId) (serial days expected : Nat) (r : PassRecord),
    let c := s.tariffOf r.ent.classNo
    let k := refundableDays c r s.opDay
    let f := figuresFor c r days
    let n := s.refund.journal.length + 1
    let after : PassRecord :=
      { r with
        usage :=
          { r.usage with
            refundedDays := r.usage.refundedDays + days, refundedTotal := r.usage.refundedTotal + expected } }
    s.record serial = some r → r.ent.blocked = false → s.refund.locked = true → c.present = true →
    1 ≤ days → days ≤ k → s.refund.journal.length < 512 → f.amount = expected → 0 < expected →
    serveOp s (.station i) (.refundCommit serial days expected) =
      .answered
        { state :=
            { s with
              store :=
                s.store.map (fun q =>
                  if q.ent.serial = serial then
                    { q with
                      usage :=
                        { q.usage with
                          refundedDays := q.usage.refundedDays + days
                          refundedTotal := q.usage.refundedTotal + expected } }
                  else q)
              refund :=
                { s.refund with
                  journal :=
                    s.refund.journal ++
                      [{ seq := s.refund.nextSeq, serial := serial, classNo := r.ent.classNo, days := days
                         amount := expected, day := s.opDay, time := s.timebase.time, port := .station i }]
                  nextSeq := s.refund.nextSeq + 1 }
              countsInFlight := s.countsInFlight ++ [.refund expected]
              postsInFlight :=
                s.postsInFlight ++
                  (.refundCommitted s.refund.nextSeq serial expected ::
                    (if 448 ≤ n then [.journalHigh n] else [])) }
          code := .ok
          body :=
            refundBytes serial k days f s.refund.nextSeq (r.usage.refundedDays + days)
              (r.usage.refundedTotal + expected) after.remaining }

/-- TARIFF PUT stores its class clamped while the lock is clear and is LOCKED while it is set; TARIFF LOCK sets the lock
whatever the table holds; each changes nothing else (R101, R103). A TARIFF LOCK with a body is BAD_ARGUMENT and leaves the lock;
its response too carries the lock state after the request (R103). Over any command: while the lock is set the tariff table
changes only where a day change is due, and the lock clears only with a change of the stored current day (R103, R104,
R151). The model's choices here: the bodies of TARIFF PUT carry no class number and take two bytes each for fee_min and step (log
entries 19 and 36, DEDUCED), and a taking settles a day change that is due before its work (log entry 11, DEDUCED). -/
def Obligations.TariffIsWrittenUntilLocked : Prop :=
  (∀ (s : State) (i : StationId),
    (∀ (c : Fin 64) (cls : TariffClass),
      let stored : TariffClass :=
        { cls with
          feePermille := if 500 < cls.feePermille then 500 else cls.feePermille
          step := if cls.step = 0 then 1 else if 10000 < cls.step then 10000 else cls.step
          capPermille := if 1000 < cls.capPermille then 1000 else cls.capPermille }
      (s.refund.locked = false → serveOp s (.station i) (.tariffPut c cls) =
        .answered
          { state := { s with refund := { s.refund with tariff := s.refund.tariff.set c.val stored } }
            code := .ok
            body := tariffBytes stored }) ∧
      (s.refund.locked = true → serveOp s (.station i) (.tariffPut c cls) =
        .answered { state := s, code := .locked, body := zeros 52 })) ∧
    serveOp s (.station i) .tariffLock =
      .answered { state := { s with refund := { s.refund with locked := true } }, code := .ok, body := [1] }) ∧
  (∀ (s : State) (r : Request), s.dayDue = false → s.engine.nextTask = none → (s.pageBusy ≠ none ∨ s.engine.deferred = []) →
    s.engine.choose s.profile.policy = some r → r.kind = .tariffLock → r.body ≠ [] →
    let s1 : State :=
      { s with
        engine :=
          { s.engine with pendingSet := s.engine.pendingSet.filter (fun q => q.port != r.port), pointer := r.port } }
    exec .engineTakeWork s = .next (s1.respond r.port .badArgument [if s.refund.locked then 1 else 0])) ∧
  (∀ (c : Instr) (s t : State), exec c s = .next t → s.refund.locked = true →
    (s.dayDue = false → t.refund.tariff = s.refund.tariff) ∧
    (t.refund.locked = false → t.timebase.currentDay ≠ s.timebase.currentDay))

/-- Interval log and refund journal never hold more than 96 and 512 records, and their numbers stay consecutive up to the next
one (R90, R118). -/
def Obligations.LogAndJournalStayConsecutive : Prop :=
  (∀ s t : State, LogLaw s → step s = .next t → LogLaw t) ∧
    ∀ s t : State, JournalLaw s → step s = .next t → JournalLaw t

/-- JOURNAL RELEASE and LOG RELEASE remove from the front the longest run of records whose numbers the request's is at or
after; a LOG RELEASE adds the passed counts removed to each lane's released total (R90, R97, R98, R118, R120; that a JOURNAL
RELEASE reports the next number as the oldest of an empty journal is the model's choice, log entry 37, DEDUCED). -/
def Obligations.ReleasesRemoveTheOldestRun : Prop :=
  ∀ (s : State) (i : StationId) (n : Count32),
    (∃ removed kept, s.refund.journal = removed ++ kept ∧ (∀ j ∈ removed, (n - j.seq).toNat < 2 ^ 31) ∧
      (∀ j, kept.head? = some j → 2 ^ 31 ≤ (n - j.seq).toNat) ∧
      serveOp s (.station i) (.journalRelease n) =
        .answered
          { state := { s with refund := { s.refund with journal := kept } }
            code := .ok
            body :=
              beBytes 2 removed.length ++ beBytes 2 kept.length ++
                beBytes 4 ((kept.map JournalRecord.seq).headD s.refund.nextSeq).toNat }) ∧
    ∀ tag, Open s (.station i) →
      ∃ removed kept u, s.count.log = removed ++ kept ∧ (∀ r ∈ removed, (n - r.seq).toNat < 2 ^ 31) ∧
        (∀ r, kept.head? = some r → 2 ^ 31 ≤ (n - r.seq).toNat) ∧
        (∀ k : LaneId, u.released[k.val] = s.count.released[k.val] + passedIn k removed) ∧
        u = { s.count with log := kept, released := u.released } ∧
        exec (.logRelease (.station i) tag (beBytes 4 n.toNat)) s =
          .next
            (({ s with count := u } : State).answered (.station i) 0x51 tag .ok
              (beBytes 1 removed.length ++ beBytes 1 kept.length ++
                beBytes 4 ((kept.map LogRecord.seq).headD s.count.nextSeq).toNat))

/-! ## Lanes -/

/-- LANE STATE: the refusals of its table change nothing; the target equal to the current state sets the requested state; each
other accepted transition has its effect on list and output, and LANE_STATE is posted where a state changed (R57, R58, R59,
R62). -/
def Obligations.LaneStateMovesTheLane : Prop :=
  ∀ (s : State) (i : StationId) (tag st : Byte) (k : LaneId) (target : LaneState), Open s (.station i) →
    laneStateOfByte st = some target →
    let l := s.lane k
    let sent := exec (.laneState (.station i) tag [BitVec.ofNat 8 k.val, st]) s
    let refused := fun (code : Code) => sent = .next (s.answered (.station i) 0x10 tag code (laneStateBytes k l))
    let accepted := fun (o : LaneOut) =>
      sent = .next ((s.applyLane k o).answered (.station i) 0x10 tag .ok (laneStateBytes k o.lane))
    let moved := fun (m : Lane) => accepted { lane := m, posts := [m.stateDetail k] }
    let free := target = .shut ∨ k.val < s.profile.lanesEnabled
    (¬ free → refused .notPermitted) ∧
    (free → target = l.current →
      accepted
        { lane := { l with requested := target }
          posts := if l.requested = target then [] else [({ l with requested := target } : Lane).stateDetail k] }) ∧
    (free → (l.current, target) ∈
        [(LaneState.shut, LaneState.self), (.shut, .observe), (.self, .observe), (.observe, .self)] →
      refused .invalidTransition) ∧
    (free → (l.current, target) ∈ [(LaneState.shut, LaneState.attended), (.attended, .self), (.attended, .observe)] →
      (l.errorFlag = true → refused .errorPending) ∧
      (l.errorFlag = false → l.current = .shut → s.timebase.status = .unset → refused .timeUnset) ∧
      (l.errorFlag = false → target = .observe → l.inflight ≠ [] → refused .laneBusy) ∧
      (l.errorFlag = false → l.current = .shut → s.timebase.status ≠ .unset →
        moved { l with current := .attended, requested := .attended, output := false }) ∧
      (l.errorFlag = false → target = .observe → l.inflight = [] →
        moved { l with current := .observe, requested := .observe, output := true }) ∧
      (l.errorFlag = false → target = .self → (l.inflight = [] ∨ l.headReleased = true) →
        moved { l with current := .self, requested := .self }) ∧
      ∀ e rest, l.errorFlag = false → target = .self → l.inflight = e :: rest → e.release = none →
        moved
          { l with
            current := .self
            requested := .self
            inflight :=
              { e with
                release :=
                  some { mark := s.elapsed, timeout := s.profile.passTimeout * 1000, pulse := s.profile.pulse } } :: rest
            output := true }) ∧
    (free → target = .attended → l.current = .self → moved { l with current := .attended, requested := .attended }) ∧
    (free → target = .attended → l.current = .observe →
      moved { l with current := .attended, requested := .attended, output := false }) ∧
    (target = .shut → l.current ≠ .shut →
      let m : Lane := { l with current := .shut, requested := .shut, inflight := [], output := false }
      accepted
        { lane := m
          tasks :=
            l.inflight.filterMap (fun e =>
              match e.kind with
              | .pass a => some { kind := .void, lane := k, pass := a, left := false }
              | .free => none)
          counts := List.replicate l.inflight.length (.balk k l.estimated)
          posts := [m.stateDetail k] })

/-- LANE ACK clears a set error indication, sets the score to 0 when SENSOR_FAILED was a cause, and posts SENSOR_HEALTH for
that and LANE_STATE; with the flag clear it changes nothing (R61, R62, R81). -/
def Obligations.LaneAckClearsTheIndication : Prop :=
  ∀ (s : State) (i : StationId) (tag : Byte) (k : LaneId), Open s (.station i) →
    let l := s.lane k
    let sent := exec (.laneAck (.station i) tag [BitVec.ofNat 8 k.val]) s
    let cleared : Lane :=
      { l with
        errorFlag := false, firstCause := none, causeSensor := false, causeLink := false
        score := if l.causeSensor then 0 else l.score }
    (l.errorFlag = false → sent = .next (s.answered (.station i) 0x11 tag .ok
      (beBytes 1 k.val ++ [0] ++ beBytes 1 (causeCode l.firstCause) ++ beBytes 1 l.score))) ∧
    (l.errorFlag = true → sent =
      .next
        ((s.applyLane k
            { lane := cleared
              posts :=
                (if l.causeSensor then [.sensorHealth k .sound 0] else []) ++
                  [.laneState k l.current l.requested none false false false] }).answered
          (.station i) 0x11 tag .ok (beBytes 1 k.val ++ [0, 0] ++ beBytes 1 cleared.score)))

/-- RELEASE GO releases the WAITING head of a lane in ATTENDED, RELEASE DENY makes it balk; an entry behind a denied head
waits on, or balks at once when its timeout has passed; in every other case NOTHING_PENDING, and nothing changes (R64, R65,
R66, R70, R71). RELEASE FREE: NOT_PERMITTED in SHUT and OBSERVE, LANE_BUSY with two entries, and otherwise a FREE entry at
the end of the list, as a head released at once in SELF and WAITING in ATTENDED (R63, R64, R67). That a timeout ending at this
very instant counts as passed is the model's choice (log entry 14, DEDUCED). -/
def Obligations.ReleasesActOnTheList : Prop :=
  (∀ (s : State) (i : StationId) (tag : Byte) (k : LaneId), Open s (.station i) →
    let l := s.lane k
    let go := exec (.releaseGo (.station i) tag [BitVec.ofNat 8 k.val, 0]) s
    let deny := exec (.releaseDeny (.station i) tag [BitVec.ofNat 8 k.val, 1]) s
    let voids := fun (e : Entry) => e.task (s.laneCtx k) .void
    let balk : CountEvent := .balk k l.estimated
    let denied := fun (e : Entry) (o : LaneOut) =>
      deny = .next ((s.applyLane k o).answered (.station i) 0x12 tag .ok (releaseBytes e))
    (∀ e rest, l.current = .attended → l.inflight = e :: rest → e.release = none →
      go =
        .next
          ((s.setLane k
              { l with
                inflight :=
                  { e with
                    release :=
                      some { mark := s.elapsed, timeout := s.profile.passTimeout * 1000, pulse := s.profile.pulse } } ::
                    rest
                output := true }).answered (.station i) 0x12 tag .ok (releaseBytes e)) ∧
      (rest = [] → denied e { lane := { l with inflight := [], output := false }, tasks := voids e, counts := [balk] }) ∧
      ∀ f, rest = [f] →
        (s.elapsed < f.admissionMark + f.admissionTimeout →
          denied e { lane := { l with inflight := [f], output := false }, tasks := voids e, counts := [balk] }) ∧
        (f.admissionMark + f.admissionTimeout ≤ s.elapsed →
          denied e
            { lane := { l with inflight := [], output := false }
              tasks := voids e ++ voids f
              counts := [balk, balk] })) ∧
    (l.current ≠ .attended ∨ l.inflight = [] ∨ l.headReleased = true →
      go = .next (s.answered (.station i) 0x12 tag .nothingPending (zeros 11)) ∧
        deny = .next (s.answered (.station i) 0x12 tag .nothingPending (zeros 11)))) ∧
  (∀ (s : State) (i : StationId) (tag : Byte) (k : LaneId), Open s (.station i) → 0 < s.profile.passTimeout →
    let l := s.lane k
    let sent := exec (.releaseFree (.station i) tag [BitVec.ofNat 8 k.val, 2]) s
    let open' := l.current = .self ∨ l.current = .attended
    let entry : Entry :=
      { kind := .free
        admissionTime := s.timebase.time
        admissionMark := s.elapsed
        admissionTimeout := s.profile.passTimeout * 1000
        release :=
          if l.inflight = [] ∧ l.current = .self then
            some { mark := s.elapsed, timeout := s.profile.passTimeout * 1000, pulse := s.profile.pulse }
          else none }
    (¬ open' → sent = .next (s.answered (.station i) 0x12 tag .notPermitted (zeros 11))) ∧
    (open' → 2 ≤ l.inflight.length → sent = .next (s.answered (.station i) 0x12 tag .laneBusy (zeros 11))) ∧
    (open' → l.inflight.length < 2 →
      sent =
        .next
          ((s.setLane k
              { l with
                inflight := l.inflight ++ [entry]
                output := if l.inflight = [] then l.current == .self else l.output }).answered
            (.station i) 0x12 tag .ok (zeros 10 ++ [if l.inflight = [] then 1 else 2]))))

/-- The ends of a lane's durations: the pass timeout of the head makes it balk and the entry behind it head, the pulse's end
deasserts the output in TIMED mode, the window's end returns the sequencer to IDLE; each does nothing before its time (R64,
R68, R70, R71, R74). A stuck episode that reaches 20,000 ms adds 32 to the score once; a change of band posts SENSOR_HEALTH,
and entering FAILED sets SENSOR_FAILED, forces SELF or OBSERVE to ATTENDED and posts LANE_STATE where that changed anything
(R60, R62, R80, R81). The model's choices here: an end has its effect at its instant or later (log entry 8, DEDUCED), and a timeout
that ends at this very instant counts as passed for the entry behind (log entry 14, DEDUCED). -/
def Obligations.LaneDurationsEnd : Prop :=
  (∀ (s : State) (k : LaneId),
    let l := s.lane k
    let c := s.laneCtx k
    let balk : CountEvent := .balk k l.estimated
    let ended := fun (e : Entry) =>
      (∃ r, e.release = some r ∧ r.mark + r.timeout ≤ s.elapsed) ∨
        (e.release = none ∧ l.current = .attended ∧ e.admissionMark + e.admissionTimeout ≤ s.elapsed)
    (∀ e, l.inflight = [e] → ended e → exec (.passTimeout k) s =
      .next
        (s.applyLane k
          { lane := { l with inflight := [], output := l.current == .observe }
            tasks := e.task c .void
            counts := [balk] })) ∧
    (∀ e f, l.inflight = [e, f] → ended e → l.current = .self → exec (.passTimeout k) s =
      .next
        (s.applyLane k
          { lane :=
              { l with
                inflight :=
                  [{ f with release := some { mark := s.elapsed, timeout := c.timeout, pulse := s.profile.pulse } }]
                output := true }
            tasks := e.task c .void
            counts := [balk] })) ∧
    (∀ e f, l.inflight = [e, f] → ended e → l.current = .attended → s.elapsed < f.admissionMark + f.admissionTimeout →
      exec (.passTimeout k) s =
        .next
          (s.applyLane k
            { lane := { l with inflight := [f], output := false }, tasks := e.task c .void, counts := [balk] })) ∧
    (∀ e f, l.inflight = [e, f] → ended e → l.current = .attended → f.admissionMark + f.admissionTimeout ≤ s.elapsed →
      exec (.passTimeout k) s =
        .next
          (s.applyLane k
            { lane := { l with inflight := [], output := false }
              tasks := e.task c .void ++ f.task c .void
              counts := [balk, balk] })) ∧
    ((∀ e, l.inflight.head? = some e → ¬ ended e) → exec (.passTimeout k) s = .next s) ∧
    (∀ e r, l.inflight.head? = some e → e.release = some r → s.profile.modeOf[k.val] = .timed →
      l.current = .self ∨ l.current = .attended → r.mark + r.pulse ≤ s.elapsed →
      exec (.releasePulseEnd k) s = .next (s.setLane k { l with output := false })) ∧
    ((s.profile.modeOf[k.val] = .held ∨
      ∀ e r, l.inflight.head? = some e → e.release = some r → s.elapsed < r.mark + r.pulse) →
      exec (.releasePulseEnd k) s = .next s) ∧
    (∀ m, l.sequencer = .aSeen m ∨ l.sequencer = .bSeen m →
      (m + 3000 ≤ s.elapsed → exec (.rotationWindowEnd k) s = .next (s.setLane k { l with sequencer := .idle })) ∧
      (s.elapsed < m + 3000 → exec (.rotationWindowEnd k) s = .next s)) ∧
    (l.sequencer = .idle → exec (.rotationWindowEnd k) s = .next s)) ∧
  (∀ (s : State) (k : LaneId) (x : ArmSensor),
    let l := s.lane k
    let n := min 255 (l.score + 32)
    (∀ m, (l.sensor x).stuck = some { mark := m, counted := false } → m + 20000 ≤ s.elapsed →
      let l1 : Lane :=
        { l.setSensor x { l.sensor x with stuck := some { mark := m, counted := true } } with score := n }
      let l2 : Lane :=
        { l1 with
          errorFlag := true
          firstCause := if l.errorFlag then l.firstCause else some .sensorFailed
          causeSensor := true
          current := if l.current = .self ∨ l.current = .observe then .attended else l.current
          output := if l.current = .observe then false else l.output }
      (bandOf n = bandOf l.score → exec (.stuckLimit k x) s = .next (s.setLane k l1)) ∧
      (bandOf n ≠ bandOf l.score → n < 192 → exec (.stuckLimit k x) s =
        .next (s.applyLane k { lane := l1, posts := [.sensorHealth k .suspect n] })) ∧
      (bandOf n ≠ bandOf l.score → 192 ≤ n → exec (.stuckLimit k x) s =
        .next
          (s.applyLane k
            { lane := l2
              posts := .sensorHealth k .failed n :: (if l2 = l1 then [] else [l2.stateDetail k]) }))) ∧
    (∀ m, (l.sensor x).stuck = some { mark := m, counted := true } ∨
        ((l.sensor x).stuck = some { mark := m, counted := false } ∧ s.elapsed < m + 20000) →
      exec (.stuckLimit k x) s = .next s) ∧
    ((l.sensor x).stuck = none → exec (.stuckLimit k x) s = .next s))

/-- Edges of a lane that takes them: each sets its timestamp and begins or ends the stuck episode; a rising edge in IDLE starts
the window, the same sensor's again restarts it, the other's within 20 ms ends it, both implausible and 8 to the score. A score
that moves into another band posts SENSOR_HEALTH, and into FAILED sets SENSOR_FAILED, forces SELF or OBSERVE to ATTENDED and posts
LANE_STATE where that changed anything. A lane that takes no edges shows the level and nothing else (R60, R62, R73, R74, R80,
R81). That an edge later than 3,000 ms after the window's start is judged as in IDLE, though the window's end has not been taken,
is the model's choice (log entry 10, DEDUCED). -/
def Obligations.EdgesDriveTheSequencer : Prop :=
  ∀ (s : State) (k : LaneId) (x y : ArmSensor),
    let l := s.lane k
    let seen := fun (z : ArmSensor) (m : Nat) => match z with
      | .a => Sequencer.aSeen m
      | .b => Sequencer.bSeen m
    let up := l.setSensor x
      { level := true, lastRise := s.timebase.time, lastFall := (l.sensor x).lastFall
        stuck := some { mark := s.elapsed, counted := false } }
    let down := l.setSensor x
      { level := false, lastRise := (l.sensor x).lastRise, lastFall := s.timebase.time, stuck := none }
    (s.takesEdges k = true →
      exec (.sensorFallingEdge k x) s = .next (s.setLane k down) ∧
      (l.sequencer = .idle ∨ (∃ m, l.sequencer = seen y m ∧ m + 3000 < s.elapsed) →
        exec (.sensorRisingEdge k x) s = .next (s.setLane k { up with sequencer := seen x s.elapsed })) ∧
      ∀ m q,
        (l.sequencer = seen x m ∧ s.elapsed ≤ m + 3000 ∧ q = seen x s.elapsed) ∨
          (y ≠ x ∧ l.sequencer = seen y m ∧ s.elapsed < m + 20 ∧ q = .idle) →
        ∃ t, exec (.sensorRisingEdge k x) s = .next t ∧
          (t.lane k).score = min 255 (l.score + 8) ∧ (t.lane k).sequencer = q ∧ (t.lane k).sensor x = up.sensor x ∧
          (t.lane k).inflight = l.inflight ∧ t.countsInFlight = s.countsInFlight ∧ t.engine = s.engine ∧
          (let n := min 255 (l.score + 8)
           let l1 : Lane := { up with sequencer := q, score := n }
           let l2 : Lane :=
            { l1 with
              errorFlag := true
              firstCause := if l.errorFlag then l.firstCause else some .sensorFailed
              causeSensor := true
              current := if l.current = .self ∨ l.current = .observe then .attended else l.current
              output := if l.current = .observe then false else l.output }
           (bandOf n = bandOf l.score → t = s.setLane k l1) ∧
           (bandOf n ≠ bandOf l.score → n < 192 → t = s.applyLane k { lane := l1, posts := [.sensorHealth k .suspect n] }) ∧
           (bandOf n ≠ bandOf l.score → 192 ≤ n →
            t =
              s.applyLane k
                { lane := l2
                  posts := .sensorHealth k .failed n :: (if l2 = l1 then [] else [l2.stateDetail k]) }))) ∧
    (s.takesEdges k = false →
      exec (.sensorRisingEdge k x) s = .next (s.setLane k (l.setSensor x { l.sensor x with level := true })) ∧
      exec (.sensorFallingEdge k x) s = .next (s.setLane k (l.setSensor x { l.sensor x with level := false })))

/-- A forward rotation (B from 20 ms to 3,000 ms after A) takes 1 from the score and is paired with the lane: a RELEASED head
in SELF or ATTENDED completes, with its counts and its CONFIRM, and the entry behind it becomes head; OBSERVE counts a
passed rider; anything else is a tailgate, counted and noticed (R64, R71, R74, R76, R79, R80, R81, R85; the passed and the free
event of a FREE entry sent as one by log entry 6, DEDUCED, and a timeout that ends at this very instant counted as passed for the
entry behind by log entry 14, DEDUCED). -/
def Obligations.ForwardRotationsArePaired : Prop :=
  ∀ (s : State) (k : LaneId) (m : Nat), s.takesEdges k = true → (s.lane k).sequencer = .aSeen m →
    m + 20 ≤ s.elapsed → s.elapsed ≤ m + 3000 →
    let l := s.lane k
    let c := s.laneCtx k
    let n := l.score - 1
    let est := bandOf n != .sound
    let health : List NoticeDetail := if bandOf n = bandOf l.score then [] else [.sensorHealth k (bandOf n) n]
    let l1 : Lane :=
      { l with
        sequencer := .idle
        score := n
        sensorB :=
          { level := true, lastRise := s.timebase.time, lastFall := l.sensorB.lastFall
            stuck := some { mark := s.elapsed, counted := false } } }
    let result := fun (o : LaneOut) => exec (.sensorRisingEdge k .b) s = .next (s.applyLane k o)
    let passed := fun (e : Entry) => match e.kind with
      | .pass _ => [CountEvent.passed k est]
      | .free => [CountEvent.passedFree k est]
    (∀ e rest, (l.current = .self ∨ l.current = .attended) → l.inflight = e :: rest → e.release ≠ none →
      (rest = [] → result
        { lane := { l1 with inflight := [], output := false }, tasks := e.task c .confirm, counts := passed e
          posts := health }) ∧
      (∀ f, rest = [f] → l.current = .self → result
        { lane :=
            { l1 with
              inflight := [{ f with release := some { mark := s.elapsed, timeout := c.timeout, pulse := s.profile.pulse } }]
              output := true }
          tasks := e.task c .confirm
          counts := passed e
          posts := health }) ∧
      (∀ f, rest = [f] → l.current = .attended → s.elapsed < f.admissionMark + f.admissionTimeout → result
        { lane := { l1 with inflight := [f], output := false }, tasks := e.task c .confirm, counts := passed e
          posts := health }) ∧
      ∀ f, rest = [f] → l.current = .attended → f.admissionMark + f.admissionTimeout ≤ s.elapsed → result
        { lane := { l1 with inflight := [], output := false }
          tasks := e.task c .confirm ++ f.task c .void
          counts := passed e ++ [.balk k est]
          posts := health }) ∧
    (l.current = .observe → result { lane := l1, counts := [.passed k est], posts := health }) ∧
    (l.current = .shut ∨ ((l.current = .self ∨ l.current = .attended) ∧ l.headReleased = false) → result
      { lane := l1, counts := [.tailgate k est], posts := health ++ [.tailgate k s.timebase.time] })

/-- A reverse rotation (A from 20 ms to 3,000 ms after B), in every lane state, sends a reverse count event and leaves the
in-flight list, the output and the lane state; nothing is posted for it but a change of the score's band (R77). -/
def Obligations.ReverseRotationsOnlyCount : Prop :=
  ∀ (s : State) (k : LaneId) (m : Nat), s.takesEdges k = true → (s.lane k).sequencer = .bSeen m →
    m + 20 ≤ s.elapsed → s.elapsed ≤ m + 3000 →
    let l := s.lane k
    let n := l.score - 1
    exec (.sensorRisingEdge k .a) s =
      .next
        (s.applyLane k
          { lane :=
              { l with
                sequencer := .idle
                score := n
                sensorA :=
                  { level := true, lastRise := s.timebase.time, lastFall := l.sensorA.lastFall
                    stuck := some { mark := s.elapsed, counted := false } } }
            counts := [.reverse k (bandOf n != .sound)]
            posts := if bandOf n = bandOf l.score then [] else [.sensorHealth k (bandOf n) n] })

/-- Every lane keeps its law: at most two entries, none in SHUT or OBSERVE, only the head RELEASED and a head in SELF always,
the output asserted only for a RELEASED head or OBSERVE, an error indication only in SHUT or ATTENDED; and SHUT while
STARTING, UNSET or not enabled (R56, R58, R59, R60, R63, R64, R71, R80, R142, R173, R176). -/
def Obligations.LaneLawIsKept : Prop := ∀ s t : State, LaneLaw s → step s = .next t → LaneLaw t

/-- Only an accepted LANE STATE takes a lane out of SHUT, and only to ATTENDED, for an enabled lane without error indication
of a READY device whose timebase has left UNSET (R56, R57, R60, R142, R158). -/
def Obligations.LanesOpenOnlyByLaneState : Prop :=
  ∀ (c : Instr) (s t : State) (k : LaneId), exec c s = .next t → (s.lane k).current = .shut →
    (t.lane k).current ≠ .shut →
    (∃ p tag body, c = .laneState p tag body) ∧ (t.lane k).current = .attended ∧ k.val < s.profile.lanesEnabled ∧
      (s.lane k).errorFlag = false ∧ s.phase = .ready ∧ s.timebase.status ≠ .unset

/-! ## Counting -/

/-- What each count event in flight adds to the open interval and, a passed event, to the lifetime total; the passed and the free
event of one completion are counted together; an event taken is in flight no more, and one that is not in flight counts nothing
(R85, R86; the events in flight as State holds them by log entry 6, DESIGN CHOICE). The boundary event: before the boundary
nothing; with room in the log the interval becomes a record that ends at the boundary, and one opens there with the next an
interval length on; on a full log it is held with EXTENDED and its next boundary moved (R87, R88, R89, R91). -/
def Obligations.IntervalsCountAndClose : Prop :=
  (∀ s : State,
    let u := s.count
    let after := fun (ev : CountEvent) (v : CountUnit) =>
      (ev ∈ s.countsInFlight →
        exec (.countEvent ev) s = .next { s with count := v, countsInFlight := s.countsInFlight.erase ev }) ∧
      (ev ∉ s.countsInFlight → exec (.countEvent ev) s = .next s)
    let put := fun (k : LaneId) (c : LaneCounts) =>
      { u with interval := { u.interval with lanes := u.interval.lanes.set k.val c } }
    (∀ (k : LaneId) (est : Bool),
      let c := u.interval.lanes[k.val]
      let e := c.estimated || est
      after (.passed k est)
        { put k { c with passed := c.passed + 1, estimated := e } with
          lifetime := u.lifetime.set k.val (u.lifetime[k.val] + 1) } ∧
      after (.passedFree k est)
        { put k { c with passed := c.passed + 1, free := c.free + 1, estimated := e } with
          lifetime := u.lifetime.set k.val (u.lifetime[k.val] + 1) } ∧
      after (.balk k est) (put k { c with balked := c.balked + 1, estimated := e }) ∧
      after (.tailgate k est) (put k { c with tailgate := c.tailgate + 1, estimated := e }) ∧
      after (.reverse k est) (put k { c with reverse := c.reverse + 1, estimated := e }) ∧
      after (.refused k) (put k { c with refused := c.refused + 1 })) ∧
    ∀ amount : Nat, after (.refund amount)
      { u with
        interval :=
          { u.interval with
            refunds := u.interval.refunds + 1
            refundAmount := u.interval.refundAmount + BitVec.ofNat 48 amount } }) ∧
  (∀ s : State,
    let u := s.count
    let f := s.profile
    let b := u.interval.nextBoundary
    (s.timebase.time < b → exec .boundaryEvent s = .next s) ∧
    (b ≤ s.timebase.time → u.log.length < 96 → 0 < b →
      exec .boundaryEvent s =
        .next
          { s with
            count :=
              { u with
                interval :=
                  { start := b, nextBoundary := b + f.intervalMinutes * 60000, lanes := Vector.replicate 6 {}
                    refunds := 0, refundAmount := 0, gathered := {} }
                log :=
                  u.log ++
                    [{ seq := u.nextSeq
                       day := operatingDay f.rollover u.interval.start
                       startMinute := u.interval.start % 86400000 / 60000
                       length := min 65535 ((b - u.interval.start + 59999) / 60000)
                       flags := u.interval.gathered
                       lanes := u.interval.lanes
                       refunds := u.interval.refunds
                       refundAmount := u.interval.refundAmount }]
                nextSeq := u.nextSeq + 1 }
            postsInFlight := s.postsInFlight ++ [.intervalClosed u.nextSeq u.interval.gathered] }) ∧
    (b ≤ s.timebase.time → 96 ≤ u.log.length →
      exec .boundaryEvent s =
        .next
          { s with
            count :=
              { u with
                interval :=
                  { u.interval with
                    gathered := { u.interval.gathered with extended := true }
                    nextBoundary := boundaryAfter f.intervalMinutes f.rollover b } }
            postsInFlight := s.postsInFlight ++ [.logFull u.log.length] }))

/-- For each lane, modulo 2^32, the lifetime passed total stays the passed counts of the open interval and of the log with the
released total: no closing and no release loses a rider (R98). -/
def Obligations.PassedRidersAreConserved : Prop :=
  ∀ s t : State, s.count.conserves → step s = .next t → t.count.conserves

/-! ## Time -/

/-- The operating day counts from minute ρ of the season's day 0, clamped to 0 to 1023, the minute of day from midnight. The
aligned boundary at or before an instant is the largest not above it, or 0 without one, and the one after it the smallest
above it (R87, R150). -/
def Obligations.CalendarFollowsStationTime : Prop :=
  (∀ rollover t : Nat,
    let d := operatingDay rollover t
    (t < rollover * 60000 → d = 0) ∧ d ≤ 1023 ∧
    (rollover * 60000 ≤ t → t < rollover * 60000 + 1024 * 86400000 →
      rollover * 60000 + d * 86400000 ≤ t ∧ t < rollover * 60000 + (d + 1) * 86400000) ∧
    (rollover * 60000 + 1024 * 86400000 ≤ t → d = 1023)) ∧
  (∀ t : Nat, minuteOfDay t ≤ 1439 ∧
    minuteOfDay t * 60000 ≤ t % 86400000 ∧ t % 86400000 < (minuteOfDay t + 1) * 60000) ∧
  (∀ s : State,
    (s.timebase.status = .unset → s.opDay = s.timebase.currentDay) ∧
    (s.timebase.status ≠ .unset → s.opDay = operatingDay s.profile.rollover s.timebase.time)) ∧
  ∀ interval rollover x : Nat, 1 ≤ interval →
    let aligned := fun (b : Nat) => ((b : Int) - rollover * 60000) % (interval * 60000) = 0
    let before := boundaryAtOrBefore interval rollover x
    let after := boundaryAfter interval rollover x
    ((∃ b, aligned b ∧ b ≤ x) → aligned before ∧ before ≤ x ∧ ∀ b, aligned b → b ≤ x → b ≤ before) ∧
    ((∀ b, aligned b → x < b) → before = 0) ∧
    aligned after ∧ x < after ∧ ∀ b, aligned b → x < b → after ≤ b

/-- A reference more than 2,000 ms behind with the force mark clear is TIME_BACKWARD in every state and changes nothing at
all; with the force mark set it closes the open interval STEPPED, or holds it (R147, R146, R144, R91, R92). -/
def Obligations.TimeNeverGoesBackUnforced : Prop :=
  ∀ (s : State) (i : StationId) (tag : Byte) (tRef : Nat), Open s (.station i) → tRef < 2 ^ 40 →
    tRef + 2000 < s.timebase.time →
    exec (.timeReference (.station i) tag (beBytes 5 tRef ++ [0])) s =
      .next
        (s.answered (.station i) 0x58 tag .timeBackward
          (beBytes 1 4 ++ beSigned 6 ((tRef : Int) - s.timebase.time) ++ beBytes 5 s.timebase.time ++
            beBytes 1 (statusCode s.timebase.status) ++ beSigned 2 s.timebase.trim ++
            beSigned 2 s.timebase.correction ++ beBytes 2 s.opDay)) ∧
    ∃ t, exec (.timeReference (.station i) tag (beBytes 5 tRef ++ [1])) s = .next t ∧ t.timebase.time = tRef ∧
      (s.count.log.length < 96 →
        ∃ r, t.count.log = s.count.log ++ [r] ∧ r.flags = { s.count.interval.gathered with stepped := true }) ∧
      (96 ≤ s.count.log.length →
        t.count.interval.gathered = { s.count.interval.gathered with stepped := true, extended := true }) ∧
      (t.refund.locked = s.refund.locked ∨
        (t.refund.locked = false ∧ t.timebase.currentDay ≠ s.timebase.currentDay))

/-- A reference within 2,000 ms in LOCKED or FREE is slewed: it replaces the pending correction, tunes the trim when 600,000 ms
have run since the last one, makes the state LOCKED with age 0, and leaves the time; from FREE it posts TIMEBASE (R145,
R148). A reference that sets or steps station time: the time becomes T_ref, the pending correction 0, the last-known time
T_ref, the state LOCKED with age 0 and mark T_ref, fraction and trim kept; the open interval is closed STEPPED, TIMEBASE is
posted with the step mark, and a day that differs is a day change (R92, R144, R146, R151). In UNSET a reference up to 2,000 ms
behind leaves the time and is slewed, with everything else of a SET. On a full log the interval is held with STEPPED and EXTENDED
(R91). The order of the posts of different blocks, and the withheld rises kept, are the model's choices (log entry 33, DESIGN
CHOICE; log entry 13, DEDUCED). -/
def Obligations.ReferencesSlewOrSetTime : Prop :=
  (∀ (s : State) (i : StationId) (tag : Byte) (tRef : Nat) (force : Bool), Open s (.station i) → tRef < 2 ^ 40 →
    s.timebase.status ≠ .unset →
    let b := s.timebase
    let e : Int := (tRef : Int) - b.time
    ((-2000 : Int) ≤ e) → e ≤ 2000 →
    ∃ t : State,
      exec (.timeReference (.station i) tag (beBytes 5 tRef ++ boolByte force)) s =
        .next
          (t.answered (.station i) 0x58 tag .ok
            (beBytes 1 1 ++ beSigned 6 e ++ beBytes 5 b.time ++ beBytes 1 1 ++ beSigned 2 t.timebase.trim ++
              beSigned 2 e ++ beBytes 2 t.opDay)) ∧
      t =
        { s with
          timebase :=
            { b with
              trim := t.timebase.trim
              correction := e
              slewDue := s.elapsed + 100
              status := .locked
              refAge := some 0
              refMark := some b.time }
          postsInFlight := s.postsInFlight ++ (if b.status = .free then [.timebase .locked false] else []) } ∧
      (∀ mark, b.refMark = some mark → mark + 600000 ≤ b.time →
        t.timebase.trim =
          max (-250) (min 250 (b.trim + (e * 1000000).tdiv (2 * ((b.time : Int) - mark))))) ∧
      ((∀ mark, b.refMark = some mark → b.time < mark + 600000) → t.timebase.trim = b.trim)) ∧
  (∀ (s : State) (i : StationId) (tag : Byte) (tRef : Nat) (force : Bool), Open s (.station i) → tRef < 2 ^ 40 →
    let b := s.timebase
    (b.status = .unset ∧ b.time ≤ tRef) ∨ (b.status ≠ .unset ∧ b.time + 2000 < tRef) ∨
      (force = true ∧ tRef + 2000 < b.time) →
    ∃ t code body,
      exec (.timeReference (.station i) tag (beBytes 5 tRef ++ boolByte force)) s =
        .next (State.answered t (.station i) 0x58 tag code body) ∧ code = .ok ∧
      body =
        beBytes 1 (if b.status = .unset then 0 else if b.time < tRef then 2 else 3) ++ beSigned 6 ((tRef : Int) - b.time) ++
          beBytes 5 tRef ++ beBytes 1 1 ++ beSigned 2 b.trim ++ beSigned 2 0 ++
          beBytes 2 (operatingDay s.profile.rollover tRef) ∧
      t.timebase =
        { b with
          time := tRef, correction := 0, lastKnown := tRef, status := .locked, refAge := some 0, refMark := some tRef
          currentDay := operatingDay s.profile.rollover tRef } ∧
      t.refund.locked = (s.refund.locked && b.currentDay == operatingDay s.profile.rollover tRef) ∧
      t.refund = { s.refund with locked := t.refund.locked } ∧
      (s.count.log.length < 96 →
        t.count =
          s.count.closedAt s.profile b.time
            (boundaryAtOrBefore s.profile.intervalMinutes s.profile.rollover tRef) { stepped := true }) ∧
      (96 ≤ s.count.log.length → t.count = s.count.heldAt s.profile tRef { stepped := true }) ∧
      t.postsInFlight =
        s.postsInFlight ++
          (let closing := s.count.closingPost { stepped := true }
           let day : List NoticeDetail :=
            if b.currentDay = operatingDay s.profile.rollover tRef then []
            else [.dayRollover (operatingDay s.profile.rollover tRef)]
           if b.status = .unset then .timebase .locked true :: closing :: day
           else closing :: (day ++ [.timebase .locked true])) ∧
      t = { s with timebase := t.timebase, refund := t.refund, count := t.count, postsInFlight := t.postsInFlight }) ∧
  (∀ (s : State) (i : StationId) (tag : Byte) (tRef : Nat) (force : Bool), Open s (.station i) →
    let b := s.timebase
    let e : Int := (tRef : Int) - b.time
    let d := operatingDay s.profile.rollover b.time
    b.status = .unset → tRef < b.time → b.time ≤ tRef + 2000 → tRef < 2 ^ 40 →
    ∃ t : State,
      exec (.timeReference (.station i) tag (beBytes 5 tRef ++ boolByte force)) s =
        .next
          (t.answered (.station i) 0x58 tag .ok
            (beBytes 1 0 ++ beSigned 6 e ++ beBytes 5 b.time ++ beBytes 1 1 ++ beSigned 2 b.trim ++ beSigned 2 e ++
              beBytes 2 d)) ∧
      t.timebase =
        { b with
          correction := e
          slewDue := s.elapsed + 100
          lastKnown := b.time
          status := .locked
          refAge := some 0
          refMark := some b.time
          currentDay := d } ∧
      (s.count.log.length < 96 →
        t.count =
          s.count.closedAt s.profile b.time
            (boundaryAtOrBefore s.profile.intervalMinutes s.profile.rollover b.time) { stepped := true }) ∧
      (96 ≤ s.count.log.length → t.count = s.count.heldAt s.profile b.time { stepped := true }) ∧
      t =
        { s with
          timebase := t.timebase
          count := t.count
          refund := { s.refund with locked := s.refund.locked && b.currentDay == d }
          postsInFlight :=
            s.postsInFlight ++
              .timebase .locked true :: s.count.closingPost { stepped := true } ::
                (if b.currentDay = d then [] else [.dayRollover d]) })

/-- One millisecond of elapsed time adds 1,000,000 and the trim to the fraction, and each 1,000,000 in it is a rise of station
time, with no part lost: the rises that slewing withholds are missing from it, where fewer come than are withheld it stands and the
others wait, and a rise past 2^40 - 1 is cut short there; a running reference age rises by 1 (R140, R141, R142). The other events
of the timebase: a slewing step every 100 ms while a correction is pending, FREE at a reference age of 21,600,000 ms, the
last-known write every 60,000 ms, and the day change; each does nothing when it is not due (R104, R141, R142, R151, R152). The model's
choices here: withheld rises are counted until they come (log entry 13, DEDUCED), an event that is due has its effect at any
later command (log entry 8, DEDUCED), and elapsed time is one counter of milliseconds (log entry 9, DEDUCED). -/
def Obligations.TimebaseEventsTakeEffect : Prop :=
  (∀ s : State, s.timebase.lawful →
    let b := s.timebase
    let rises := (b.fraction + (1000000 + b.trim).toNat) / 1000000
    ∃ v : Timebase,
      exec .runningOfStationTime s = .next { s with elapsed := s.elapsed + 1, timebase := v } ∧
      v = { b with time := v.time, fraction := v.fraction, withheld := v.withheld, refAge := v.refAge } ∧
      v.fraction < 1000000 ∧ b.time ≤ v.time ∧
      v.refAge = b.refAge.map (· + 1) ∧
      (rises : Int) * 1000000 + v.fraction = (b.fraction : Int) + 1000000 + b.trim ∧
      (b.withheld ≤ rises → v.withheld = 0 ∧
        (b.time + (rises - b.withheld) ≤ 2 ^ 40 - 1 →
          (v.time : Int) * 1000000 + v.fraction + b.withheld * 1000000 =
            (b.time : Int) * 1000000 + b.fraction + 1000000 + b.trim) ∧
        (2 ^ 40 - 1 < b.time + (rises - b.withheld) → v.time = 2 ^ 40 - 1)) ∧
      (rises < b.withheld → v.time = b.time ∧ v.withheld = b.withheld - rises) ∧
      (b.time = 2 ^ 40 - 1 → v.time = 2 ^ 40 - 1)) ∧
  (∀ s : State,
    let b := s.timebase
    (0 < b.correction → b.slewDue ≤ s.elapsed → exec .slewTick s =
      .next
        { s with
          timebase :=
            { b with
              time := min (2 ^ 40 - 1) (b.time + 1), correction := b.correction - 1, slewDue := b.slewDue + 100 } }) ∧
    (b.correction < 0 → b.slewDue ≤ s.elapsed → exec .slewTick s =
      .next
        { s with
          timebase :=
            { b with withheld := b.withheld + 1, correction := b.correction + 1, slewDue := b.slewDue + 100 } }) ∧
    (b.correction = 0 ∨ s.elapsed < b.slewDue → exec .slewTick s = .next s) ∧
    (∀ age, b.refAge = some age → b.status = .locked → 21600000 ≤ age → exec .referenceAgeExpiry s =
      .next
        { s with
          timebase := { b with status := .free }, postsInFlight := s.postsInFlight ++ [.timebase .free false] }) ∧
    ((b.status ≠ .locked ∨ ∀ age, b.refAge = some age → age < 21600000) →
      exec .referenceAgeExpiry s = .next s) ∧
    (b.lastKnownDue ≤ s.elapsed → exec .lastKnownWrite s =
      .next { s with timebase := { b with lastKnown := b.time, lastKnownDue := b.lastKnownDue + 60000 } }) ∧
    (s.elapsed < b.lastKnownDue → exec .lastKnownWrite s = .next s) ∧
    ∀ d : Nat, d = operatingDay s.profile.rollover b.time →
      (b.status ≠ .unset → d ≠ b.currentDay → exec .dayChange s =
        .next
          { s with
            timebase := { b with currentDay := d }
            refund := { s.refund with locked := false }
            postsInFlight := s.postsInFlight ++ [.dayRollover d] }) ∧
      (b.status = .unset ∨ d = b.currentDay → exec .dayChange s = .next s))

/-- Over any command but a device reset and a reference that carries the force mark, station time never decreases (R140). -/
def Obligations.StationTimeNeverDecreases : Prop :=
  ∀ (c : Instr) (s t : State), exec c s = .next t → s.timebase.time ≤ 2 ^ 40 - 1 → c ≠ .deviceReset →
    c ≠ .restartDueExpiry → (∀ p, c ≠ .selectPeriodEnd p) →
    (∀ p tag body, c = .timeReference p tag body → body.getD 5 0 ≠ 1) → s.timebase.time ≤ t.timebase.time

/-- The timebase and the profile stay within their ranges: station time below 2^40, the fraction below 1,000,000, trim and
correction in range, no reference mark or age in UNSET, each profile field in its range, and the pass timeout never below
the pulse length (R68, R139, R142, R150, R153, R172, R173). -/
def Obligations.TimebaseAndProfileStayInRange : Prop :=
  ∀ s t : State, s.timebase.lawful → s.profile.lawful → step s = .next t → t.timebase.lawful ∧ t.profile.lawful

/-! ## Profile and unit reads -/

/-- CONFIGURE. Its body is one or more items, no two of one field and index: field code, index and a value of the field's width,
signed for the trim; a body spells its items exactly when it is their bytes one after another, so that one without an item, cut
within an item, with a code or an index of no field or with a field twice spells none (R172, R173). Each value is clamped, and the
pass timeout then raised to the smallest whole second not below L (R173). A lane is concerned by an item that would change its lift,
its release mode, the zone or the passback interval of its lift, or take it out of the enabled ones (R173). A body of no form is
BAD_ARGUMENT and a request that concerns a lane not SHUT LANES_OPEN, both storing nothing; otherwise the clamped items are stored
whole, a lane no longer enabled stops taking edges and a newly enabled one begins to (R73, R80), a changed interval length or rollover
minute is one cut, under the new values and held on a full log with CUT and EXTENDED, and without one the count unit is left alone; a
changed rollover minute that changes the operating day in LOCKED or FREE is a day change, with its effects on lock, stored day and
notices (R91, R94, R104, R151, R173, R174). The model's choices here: the body carries no identity (log entry 20, DEDUCED), a cut
record takes its season day under the new rollover minute (log entry 25, DEDUCED), and DAY_ROLLOVER stands behind the cut's post (log
entry 33, DESIGN CHOICE). -/
def Obligations.ConfigureStoresOrRefuses : Prop :=
  (let shape : ProfileField → Nat × Nat × Nat := fun field => match field with
    | .lanesEnabled => (0x01, 0, 1)
    | .lift k => (0x02, k.val, 1)
    | .zone l => (0x03, l.val, 1)
    | .passback l => (0x04, l.val, 2)
    | .mode k => (0x05, k.val, 1)
    | .pulse => (0x06, 0, 2)
    | .passTimeout => (0x07, 0, 1)
    | .interval => (0x08, 0, 1)
    | .rollover => (0x09, 0, 2)
    | .policy => (0x0A, 0, 1)
    | .stationId => (0x0B, 0, 2)
    | .trim => (0x0C, 0, 2)
   let sendable := fun (x : ConfigItem) =>
    (x.field = .trim ∧ -32768 ≤ x.value ∧ x.value ≤ 32767) ∨
      (x.field ≠ .trim ∧ 0 ≤ x.value ∧ x.value < 256 ^ (shape x.field).2.2)
   let spelled := fun (x : ConfigItem) =>
    beBytes 1 (shape x.field).1 ++ beBytes 1 (shape x.field).2.1 ++ beSigned (shape x.field).2.2 x.value
   ∀ (body : List Byte) (items : List ConfigItem), configureBody body = some items ↔
    items ≠ [] ∧ (items.map ConfigItem.field).Nodup ∧ (∀ x ∈ items, sendable x) ∧ body = items.flatMap spelled) ∧
  (∀ (f : Profile) (trim : Int),
    let stored := fun (x : ProfileField) (v : Int) => f.store { field := x, value := v }
    (∀ v : Nat,
      stored .lanesEnabled v = { f with lanesEnabled := min 6 v } ∧
      (∀ k : LaneId, stored (.lift k) v = { f with liftOf := f.liftOf.set k.val (if v = 0 then 0 else 1) }) ∧
      (∀ l : LiftId, stored (.zone l) v = { f with zoneOf := f.zoneOf.set l.val (min 15 v) }) ∧
      (∀ l : LiftId, stored (.passback l) v = { f with passback := f.passback.set l.val (min 3600 v) }) ∧
      (∀ k : LaneId, stored (.mode k) v = { f with modeOf := f.modeOf.set k.val (if v = 0 then .timed else .held) }) ∧
      stored .pulse v = { f with pulse := min 5000 (max 100 v) } ∧
      stored .passTimeout v = { f with passTimeout := min 60 (max 2 v) } ∧
      stored .interval v =
        { f with
          intervalMinutes :=
            if v ≤ 7 then 5 else if v ≤ 12 then 10 else if v ≤ 17 then 15 else if v ≤ 24 then 20 else if v ≤ 44 then 30
            else 60 } ∧
      stored .rollover v = { f with rollover := min 1439 v } ∧
      stored .policy v =
        { f with policy := if v = 0 then .roundRobin else if v = 1 then .lanesFirst else .stationFirst } ∧
      stored .stationId v = { f with stationId := v }) ∧
    (∀ v : Int, storeTrim trim { field := .trim, value := v } = max (-250) (min 250 v) ∧ stored .trim v = f ∧
      ∀ x : ProfileField, x ≠ .trim → storeTrim trim { field := x, value := v } = trim) ∧
    (f.pulse ≤ f.passTimeout * 1000 → f.raiseTimeout = f) ∧
    (f.passTimeout * 1000 < f.pulse → ∃ n, f.raiseTimeout = { f with passTimeout := n } ∧ f.pulse ≤ n * 1000 ∧
      ∀ m, f.pulse ≤ m * 1000 → n ≤ m)) ∧
  (∀ (f : Profile) (x : ConfigItem) (k : LaneId),
    let g := f.store x
    let lift := f.liftOf[k.val]
    concerns f x k = true ↔
      g.liftOf[k.val] ≠ lift ∨ g.modeOf[k.val] ≠ f.modeOf[k.val] ∨ g.zoneOf[lift.val] ≠ f.zoneOf[lift.val] ∨
        g.passback[lift.val] ≠ f.passback[lift.val] ∨ (k.val < f.lanesEnabled ∧ g.lanesEnabled ≤ k.val)) ∧
  ∀ (s : State) (i : StationId) (tag : Byte) (body : List Byte), Open s (.station i) →
    let sent := exec (.configure (.station i) tag body) s
    let report := fun (code lane : Nat) (t : State) =>
      beBytes 1 code ++ beBytes 1 lane ++ profileBytes t.profile t.timebase.trim
    (configureBody body = none → sent = .next (s.answered (.station i) 0x60 tag .badArgument (report 0 0 s))) ∧
    ∀ items, configureBody body = some items →
      (∀ before x after k, items = before ++ x :: after →
        (∀ y ∈ before, ∀ j, concerns s.profile y j = true → (s.lane j).current = .shut) →
        concerns s.profile x k = true → (s.lane k).current ≠ .shut →
        (∀ j, j < k → concerns s.profile x j = true → (s.lane j).current = .shut) →
        sent = .next (s.answered (.station i) 0x60 tag .lanesOpen (report x.field.code k.val s))) ∧
      ((∀ x ∈ items, ∀ k, concerns s.profile x k = true → (s.lane k).current = .shut) →
        ∃ t : State, sent = .next (t.answered (.station i) 0x60 tag .ok (report 0 0 t)) ∧
          t.profile = (items.foldl Profile.store s.profile).raiseTimeout ∧
          t.timebase.trim = items.foldl storeTrim s.timebase.trim ∧
          (∀ k : LaneId,
            let l := s.lane k
            let found := fun (v : Sensor) =>
              { v with stuck := if v.level then some { mark := s.elapsed, counted := false } else v.stuck }
            let enabled := k.val < s.profile.lanesEnabled
            let stays := k.val < t.profile.lanesEnabled
            (enabled → ¬ stays → t.lane k =
              { l with
                sequencer := .idle
                sensorA := { l.sensorA with stuck := none }
                sensorB := { l.sensorB with stuck := none } }) ∧
            (¬ enabled → stays → t.lane k =
              { l with sequencer := .idle, sensorA := found l.sensorA, sensorB := found l.sensorB }) ∧
            ((enabled ↔ stays) → t.lane k = l)) ∧
          (t.profile.intervalMinutes = s.profile.intervalMinutes → t.profile.rollover = s.profile.rollover →
            t.count = s.count ∧ t.postsInFlight = s.postsInFlight ∧ t.refund = s.refund) ∧
          (let cut := t.profile.intervalMinutes ≠ s.profile.intervalMinutes ∨ t.profile.rollover ≠ s.profile.rollover
           let d := operatingDay t.profile.rollover s.timebase.time
           let newDay :=
            t.profile.rollover ≠ s.profile.rollover ∧ s.timebase.status ≠ .unset ∧ d ≠ s.timebase.currentDay
           (cut → s.count.log.length < 96 →
            t.count =
              s.count.closedAt t.profile s.timebase.time
                (boundaryAtOrBefore t.profile.intervalMinutes t.profile.rollover s.timebase.time) { cut := true }) ∧
           (cut → 96 ≤ s.count.log.length → t.count = s.count.heldAt t.profile s.timebase.time { cut := true }) ∧
           t =
            { s with
              profile := t.profile
              timebase :=
                { s.timebase with trim := t.timebase.trim, currentDay := if newDay then d else s.timebase.currentDay }
              lanes := t.lanes
              count := t.count
              refund := { s.refund with locked := if newDay then false else s.refund.locked }
              postsInFlight :=
                s.postsInFlight ++ (if cut then [s.count.closingPost { cut := true }] else []) ++
                  (if newDay then [.dayRollover d] else []) }))

/-- What the requests that only report answer, and that they change nothing: LANE STATUS on a lane port for its own lane and
on a station port for any, LOG READ, READ TIME, READ PROFILE (R82, R96, R149, R175). The model's choices in the bodies: LANE
STATUS sends the rising before the falling edge of each sensor, and its refusal on a lane port 33 zero bytes (log entry 24,
DEDUCED); READ TIME has a presence flag before the reference age, 26 bytes in all (log entry 21, DEDUCED). -/
def Obligations.UnitReadsChangeNothing : Prop :=
  (∀ (s : State) (k : LaneId) (tag : Byte),
    let status := laneStatusBytes (s.lane k) s.profile.modeOf[k.val]
    (Open s (.lane k) →
      exec (.laneStatus (.lane k) tag [BitVec.ofNat 8 k.val]) s =
        .next (s.answered (.lane k) 0x02 tag .ok status) ∧
      ∀ b : Byte, b.toNat ≠ k.val → exec (.laneStatus (.lane k) tag [b]) s =
        .next (s.answered (.lane k) 0x02 tag .notPermitted (zeros 33))) ∧
    ∀ i : StationId, Open s (.station i) →
      exec (.laneStatus (.station i) tag [BitVec.ofNat 8 k.val]) s =
        .next (s.answered (.station i) 0x02 tag .ok status)) ∧
  ∀ (s : State) (i : StationId) (tag : Byte), Open s (.station i) →
    (∀ n : Count32, ∃ skipped sent rest, s.count.log = skipped ++ (sent ++ rest) ∧
      (∀ r ∈ skipped, ¬ (r.seq - n).toNat < 2 ^ 31) ∧ (∀ r, sent.head? = some r → (r.seq - n).toNat < 2 ^ 31) ∧
      sent.length ≤ 2 ∧ (rest ≠ [] → sent.length = 2) ∧
      exec (.logRead (.station i) tag (beBytes 4 n.toNat)) s =
        .next
          (s.answered (.station i) 0x50 tag .ok
            (beBytes 1 sent.length ++ beBytes 1 s.count.log.length ++
              beBytes 4 ((s.count.log.map LogRecord.seq).headD s.count.nextSeq).toNat ++
              beBytes 4 s.count.nextSeq.toNat ++
              ((List.finRange 6).flatMap (fun k =>
                beBytes 4 s.count.lifetime[k.val].toNat ++ beBytes 4 s.count.released[k.val].toNat)) ++
              sent.flatMap logBytes))) ∧
    exec (.readTime (.station i) tag []) s = .next (s.answered (.station i) 0x59 tag .ok (timeBytes s)) ∧
    exec (.readProfile (.station i) tag []) s =
      .next
        (s.answered (.station i) 0x61 tag .ok
          ([0x1B, 0x02, 0x62, 0x01] ++ profileBytes s.profile s.timebase.trim))

/-- A body of no form, sent to a block other than the engine, is BAD_ARGUMENT and changes nothing (R57, R61, R65, R66, R67,
R82, R96, R97, R143, R149, R169, R170, R175); a LANE STATE that names a lane and none of the four targets reports that lane (R57).
The model's choices here: the zero bodies of the others (log entry 15, DEDUCED), of LANE STATUS 33 bytes (log entry 24, DEDUCED) and
of READ TIME 26 (log entry 21, DEDUCED); BAD_ARGUMENT for a body of a wrong length at a lane row, for a RELEASE action of none of
the three and for a RELEASE row with another row's action byte (log entry 26, DEDUCED), for a force byte above 1 (log entry 17,
DEDUCED); and the zero case byte of TIME REFERENCE (log entry 22, DEDUCED). -/
def Obligations.MalformedUnitBodiesAreBadArgument : Prop :=
  (∀ (s : State) (k : LaneId) (tag : Byte) (body : List Byte), Open s (.lane k) → body.length ≠ 1 →
    exec (.laneStatus (.lane k) tag body) s = .next (s.answered (.lane k) 0x02 tag .badArgument (zeros 33))) ∧
  ∀ (s : State) (i : StationId) (tag : Byte) (body : List Byte), Open s (.station i) →
    let p : Port := .station i
    let bad := fun (c : Instr) (kind : Byte) (answer : List Byte) =>
      exec c s = .next (s.answered p kind tag .badArgument answer)
    (body.length ≠ 1 ∨ 6 ≤ (body.getD 0 0).toNat →
      bad (.laneStatus p tag body) 0x02 (zeros 33) ∧ bad (.laneAck p tag body) 0x11 (zeros 4)) ∧
    (body.length ≠ 2 ∨ 6 ≤ (body.getD 0 0).toNat →
      bad (.laneState p tag body) 0x10 (zeros 5) ∧ bad (.releaseGo p tag body) 0x12 (zeros 11) ∧
        bad (.releaseDeny p tag body) 0x12 (zeros 11) ∧ bad (.releaseFree p tag body) 0x12 (zeros 11)) ∧
    (∀ (k : LaneId) (st : Byte), body = [BitVec.ofNat 8 k.val, st] → 4 ≤ st.toNat →
      let l := s.lane k
      bad (.laneState p tag body) 0x10
        (beBytes 1 k.val ++ beBytes 1 (laneStateCode l.current) ++ beBytes 1 (laneStateCode l.requested) ++
          boolByte l.errorFlag ++ beBytes 1 (causeCode l.firstCause))) ∧
    ((body.getD 1 0).toNat ≠ 0 → bad (.releaseGo p tag body) 0x12 (zeros 11)) ∧
    ((body.getD 1 0).toNat ≠ 1 → bad (.releaseDeny p tag body) 0x12 (zeros 11)) ∧
    ((body.getD 1 0).toNat ≠ 2 → bad (.releaseFree p tag body) 0x12 (zeros 11)) ∧
    (body.length ≠ 4 → bad (.logRead p tag body) 0x50 (zeros 58) ∧ bad (.logRelease p tag body) 0x51 (zeros 6)) ∧
    (body.length ≠ 6 ∨ 2 ≤ (body.getD 5 0).toNat →
      bad (.timeReference p tag body) 0x58
        (zeros 7 ++ beBytes 5 s.timebase.time ++ beBytes 1 (statusCode s.timebase.status) ++
          beSigned 2 s.timebase.trim ++ beSigned 2 s.timebase.correction ++ beBytes 2 s.opDay)) ∧
    (body ≠ [] →
      bad (.readTime p tag body) 0x59 (zeros 26) ∧ bad (.readProfile p tag body) 0x61 (zeros 34) ∧
        bad (.fetchNotices p tag body) 0x69 (zeros 1)) ∧
    (body.length ≠ 2 → bad (.subscribe p tag body) 0x68 (zeros 4))

/-! ## Notices -/

/-- A post at each station port: nothing under a mask without its kind; a notice of its kind and subject is updated in place,
its count rising to at most 255; otherwise one is appended. FETCH NOTICES takes the oldest eight and SUBSCRIBE drops what
its mask excludes, each from the requesting port alone (R168, R169, R170). A post is taken only as the oldest in flight from its
block, so that the posts of one event keep their order; another does nothing. That a post waits in flight, and that a notice's time
is that of the taking, is the model's choice (log entry 7, DESIGN CHOICE). -/
def Obligations.NoticesArePostedAndTaken : Prop :=
  (∀ (s : State) (d : NoticeDetail) (before after : List NoticeDetail), s.postsInFlight = before ++ d :: after →
    (∃ q ∈ before, noticeSource q = noticeSource d) → (∀ q ∈ before, q ≠ d) → exec (.noticePost d) s = .next s) ∧
  (∀ (s : State) (d : NoticeDetail), d ∉ s.postsInFlight → exec (.noticePost d) s = .next s) ∧
  (∀ (k : LaneId) (band : HealthBand) (score : Nat) (st rq : LaneState) (fc : Option ErrorCause) (fl cs cl : Bool),
    noticeSource (.sensorHealth k band score) = noticeSource (.laneState k st rq fc fl cs cl)) ∧
  (∀ (s : State) (d : NoticeDetail) (front back : List NoticeDetail), s.postsInFlight = front ++ d :: back →
    (∀ q ∈ front, noticeSource q ≠ noticeSource d) → ∃ t, exec (.noticePost d) s = .next t ∧
    t = { s with notices := t.notices, postsInFlight := front ++ back } ∧
    ∀ i : StationId, (s.noticePort i).lawful →
      (t.noticePort i).mask = (s.noticePort i).mask ∧
      (maskIncludes (s.noticePort i).mask d = false → (t.noticePort i).queue = (s.noticePort i).queue) ∧
      (maskIncludes (s.noticePort i).mask d = true →
        (∀ before n after, (s.noticePort i).queue = before ++ n :: after → noticeKey n.detail = noticeKey d →
          (t.noticePort i).queue =
            before ++
              { detail := d, first := n.first, latest := s.timebase.time, count := min 255 (n.count + 1) } :: after) ∧
        ((∀ n ∈ (s.noticePort i).queue, noticeKey n.detail ≠ noticeKey d) →
          (t.noticePort i).queue =
            (s.noticePort i).queue ++
              [{ detail := d, first := s.timebase.time, latest := s.timebase.time, count := 1 }]))) ∧
  ∀ (s : State) (i : StationId) (tag : Byte), Open s (.station i) →
    let q := (s.noticePort i).queue
    exec (.fetchNotices (.station i) tag []) s =
      .next
        ((s.setNoticePort i { s.noticePort i with queue := q.drop 8 }).answered (.station i) 0x69 tag .ok
          (beBytes 1 (min 8 q.length) ++ (q.take 8).flatMap noticeBytes)) ∧
    ∀ m : Nat,
      let kept := q.filter (fun n => maskIncludes (BitVec.ofNat 16 m) n.detail)
      (m < 1024 → exec (.subscribe (.station i) tag (beBytes 2 m)) s =
        .next
          ((s.setNoticePort i { queue := kept, mask := BitVec.ofNat 16 m }).answered (.station i) 0x68 tag .ok
            (beBytes 2 m ++ beBytes 1 (q.length - kept.length) ++ beBytes 1 kept.length))) ∧
      (1024 ≤ m → m < 65536 → exec (.subscribe (.station i) tag (beBytes 2 m)) s =
        .next (s.answered (.station i) 0x68 tag .badArgument (zeros 4)))

/-- A notice queue keeps its law, two notices of one kind and subject never standing in it, and so never holds more than 25
(R167, R168). -/
def Obligations.NoticeQueuesStayDistinct : Prop :=
  (∀ s t : State, NoticeLaw s → step s = .next t → NoticeLaw t) ∧
    ∀ n : NoticePort, n.lawful → n.queue.length ≤ 25
end

