-- ==== Sys2Proof/Laws/PerInstr.lean ====
section
/-! SUPPORT. A statement about every command as syntax: the frame of a request that a port accepts carries its kind code and
its tag (R155, R164). -/

namespace Sys2Proof.Laws.FrameParts

/-- The frame of the command, if it is a request other than PORT RESET, is the one of its port, kind code and tag. -/
def Statement (i : Instr) : Prop :=
  ∀ p kind tag, i.parts = some (p, kind, tag) → ∃ body, encode i = some (p, requestFrame kind tag body)

theorem admitPass (p : Port) (tag : Byte) (body : List Byte) : Statement (.admitPass p tag body) := by
  rintro p' k' t' ⟨⟩
  exact ⟨body, rfl⟩

theorem laneStatus (p : Port) (tag : Byte) (body : List Byte) : Statement (.laneStatus p tag body) := by
  rintro p' k' t' ⟨⟩
  exact ⟨body, rfl⟩

theorem portReset (p : Port) (tag : Byte) (req : ResetRequest) : Statement (.portReset p tag req) := by
  rintro p' k' t' ⟨⟩

theorem laneState (p : Port) (tag : Byte) (body : List Byte) : Statement (.laneState p tag body) := by
  rintro p' k' t' ⟨⟩
  exact ⟨body, rfl⟩

theorem laneAck (p : Port) (tag : Byte) (body : List Byte) : Statement (.laneAck p tag body) := by
  rintro p' k' t' ⟨⟩
  exact ⟨body, rfl⟩

theorem releaseGo (p : Port) (tag : Byte) (body : List Byte) : Statement (.releaseGo p tag body) := by
  rintro p' k' t' ⟨⟩
  exact ⟨body, rfl⟩

theorem releaseDeny (p : Port) (tag : Byte) (body : List Byte) : Statement (.releaseDeny p tag body) := by
  rintro p' k' t' ⟨⟩
  exact ⟨body, rfl⟩

theorem releaseFree (p : Port) (tag : Byte) (body : List Byte) : Statement (.releaseFree p tag body) := by
  rintro p' k' t' ⟨⟩
  exact ⟨body, rfl⟩

theorem passRead (p : Port) (tag : Byte) (body : List Byte) : Statement (.passRead p tag body) := by
  rintro p' k' t' ⟨⟩
  exact ⟨body, rfl⟩

theorem block (p : Port) (tag : Byte) (body : List Byte) : Statement (.block p tag body) := by
  rintro p' k' t' ⟨⟩
  exact ⟨body, rfl⟩

theorem unblock (p : Port) (tag : Byte) (body : List Byte) : Statement (.unblock p tag body) := by
  rintro p' k' t' ⟨⟩
  exact ⟨body, rfl⟩

theorem pageOpen (p : Port) (tag : Byte) (body : List Byte) : Statement (.pageOpen p tag body) := by
  rintro p' k' t' ⟨⟩
  exact ⟨body, rfl⟩

theorem recordPut (p : Port) (tag : Byte) (body : List Byte) : Statement (.recordPut p tag body) := by
  rintro p' k' t' ⟨⟩
  exact ⟨body, rfl⟩

theorem recordDrop (p : Port) (tag : Byte) (body : List Byte) : Statement (.recordDrop p tag body) := by
  rintro p' k' t' ⟨⟩
  exact ⟨body, rfl⟩

theorem stagingRead (p : Port) (tag : Byte) (body : List Byte) : Statement (.stagingRead p tag body) := by
  rintro p' k' t' ⟨⟩
  exact ⟨body, rfl⟩

theorem pageCommit (p : Port) (tag : Byte) (body : List Byte) : Statement (.pageCommit p tag body) := by
  rintro p' k' t' ⟨⟩
  exact ⟨body, rfl⟩

theorem pageAbandon (p : Port) (tag : Byte) (body : List Byte) : Statement (.pageAbandon p tag body) := by
  rintro p' k' t' ⟨⟩
  exact ⟨body, rfl⟩

theorem tariffPut (p : Port) (tag : Byte) (body : List Byte) : Statement (.tariffPut p tag body) := by
  rintro p' k' t' ⟨⟩
  exact ⟨body, rfl⟩

theorem tariffRead (p : Port) (tag : Byte) (body : List Byte) : Statement (.tariffRead p tag body) := by
  rintro p' k' t' ⟨⟩
  exact ⟨body, rfl⟩

theorem tariffLock (p : Port) (tag : Byte) (body : List Byte) : Statement (.tariffLock p tag body) := by
  rintro p' k' t' ⟨⟩
  exact ⟨body, rfl⟩

theorem refundQuote (p : Port) (tag : Byte) (body : List Byte) : Statement (.refundQuote p tag body) := by
  rintro p' k' t' ⟨⟩
  exact ⟨body, rfl⟩

theorem refundCommit (p : Port) (tag : Byte) (body : List Byte) : Statement (.refundCommit p tag body) := by
  rintro p' k' t' ⟨⟩
  exact ⟨body, rfl⟩

theorem journalRead (p : Port) (tag : Byte) (body : List Byte) : Statement (.journalRead p tag body) := by
  rintro p' k' t' ⟨⟩
  exact ⟨body, rfl⟩

theorem journalRelease (p : Port) (tag : Byte) (body : List Byte) : Statement (.journalRelease p tag body) := by
  rintro p' k' t' ⟨⟩
  exact ⟨body, rfl⟩

theorem logRead (p : Port) (tag : Byte) (body : List Byte) : Statement (.logRead p tag body) := by
  rintro p' k' t' ⟨⟩
  exact ⟨body, rfl⟩

theorem logRelease (p : Port) (tag : Byte) (body : List Byte) : Statement (.logRelease p tag body) := by
  rintro p' k' t' ⟨⟩
  exact ⟨body, rfl⟩

theorem timeReference (p : Port) (tag : Byte) (body : List Byte) : Statement (.timeReference p tag body) := by
  rintro p' k' t' ⟨⟩
  exact ⟨body, rfl⟩

theorem readTime (p : Port) (tag : Byte) (body : List Byte) : Statement (.readTime p tag body) := by
  rintro p' k' t' ⟨⟩
  exact ⟨body, rfl⟩

theorem configure (p : Port) (tag : Byte) (body : List Byte) : Statement (.configure p tag body) := by
  rintro p' k' t' ⟨⟩
  exact ⟨body, rfl⟩

theorem readProfile (p : Port) (tag : Byte) (body : List Byte) : Statement (.readProfile p tag body) := by
  rintro p' k' t' ⟨⟩
  exact ⟨body, rfl⟩

theorem subscribe (p : Port) (tag : Byte) (body : List Byte) : Statement (.subscribe p tag body) := by
  rintro p' k' t' ⟨⟩
  exact ⟨body, rfl⟩

theorem fetchNotices (p : Port) (tag : Byte) (body : List Byte) : Statement (.fetchNotices p tag body) := by
  rintro p' k' t' ⟨⟩
  exact ⟨body, rfl⟩

theorem stationRestart (p : Port) (tag : Byte) (body : List Byte) : Statement (.stationRestart p tag body) := by
  rintro p' k' t' ⟨⟩
  exact ⟨body, rfl⟩

theorem unknownKind (p : Port) (kind : Byte) (tag : Byte) : Statement (.unknownKind p kind tag) := by
  rintro p' k' t' ⟨⟩
  exact ⟨[], rfl⟩

theorem frameError (p : Port) (cause : FrameFault) : Statement (.frameError p cause) := by
  rintro p' k' t' ⟨⟩

theorem selectPeriodStart (p : Port) : Statement (.selectPeriodStart p) := by
  rintro p' k' t' ⟨⟩

theorem responseClockedOut (p : Port) : Statement (.responseClockedOut p) := by
  rintro p' k' t' ⟨⟩

theorem selectPeriodEnd (p : Port) : Statement (.selectPeriodEnd p) := by
  rintro p' k' t' ⟨⟩

theorem engineTakeWork : Statement (.engineTakeWork) := by
  rintro p' k' t' ⟨⟩

theorem writeCompletion (result : WriteResult) : Statement (.writeCompletion result) := by
  rintro p' k' t' ⟨⟩

theorem idleTimerEnd : Statement (.idleTimerEnd) := by
  rintro p' k' t' ⟨⟩

theorem passTimeout (k : LaneId) : Statement (.passTimeout k) := by
  rintro p' k' t' ⟨⟩

theorem releasePulseEnd (k : LaneId) : Statement (.releasePulseEnd k) := by
  rintro p' k' t' ⟨⟩

theorem sensorRisingEdge (k : LaneId) (x : ArmSensor) : Statement (.sensorRisingEdge k x) := by
  rintro p' k' t' ⟨⟩

theorem sensorFallingEdge (k : LaneId) (x : ArmSensor) : Statement (.sensorFallingEdge k x) := by
  rintro p' k' t' ⟨⟩

theorem rotationWindowEnd (k : LaneId) : Statement (.rotationWindowEnd k) := by
  rintro p' k' t' ⟨⟩

theorem stuckLimit (k : LaneId) (x : ArmSensor) : Statement (.stuckLimit k x) := by
  rintro p' k' t' ⟨⟩

theorem slewTick : Statement (.slewTick) := by
  rintro p' k' t' ⟨⟩

theorem referenceAgeExpiry : Statement (.referenceAgeExpiry) := by
  rintro p' k' t' ⟨⟩

theorem lastKnownWrite : Statement (.lastKnownWrite) := by
  rintro p' k' t' ⟨⟩

theorem boundaryEvent : Statement (.boundaryEvent) := by
  rintro p' k' t' ⟨⟩

theorem dayChange : Statement (.dayChange) := by
  rintro p' k' t' ⟨⟩

theorem countEvent (ev : CountEvent) : Statement (.countEvent ev) := by
  rintro p' k' t' ⟨⟩

theorem noticePost (d : NoticeDetail) : Statement (.noticePost d) := by
  rintro p' k' t' ⟨⟩

theorem deviceReset : Statement (.deviceReset) := by
  rintro p' k' t' ⟨⟩

theorem startupComplete : Statement (.startupComplete) := by
  rintro p' k' t' ⟨⟩

theorem restartDueExpiry : Statement (.restartDueExpiry) := by
  rintro p' k' t' ⟨⟩

theorem runningOfStationTime : Statement (.runningOfStationTime) := by
  rintro p' k' t' ⟨⟩

end Sys2Proof.Laws.FrameParts
end

