-- ==== Sys2Proof/Laws/State.lean ====
section
/-! SUPPORT. One lemma per field per update of the state, so that no proof unfolds a record update. -/

namespace Sys2Proof.Machine

variable (s : State)

/-! ### setLane -/

@[simp] theorem setLane_phase (k : LaneId) (l : Lane) : (s.setLane k l).phase = s.phase := rfl
@[simp] theorem setLane_elapsed (k : LaneId) (l : Lane) : (s.setLane k l).elapsed = s.elapsed := rfl
@[simp] theorem setLane_restartDue (k : LaneId) (l : Lane) : (s.setLane k l).restartDue = s.restartDue := rfl
@[simp] theorem setLane_profile (k : LaneId) (l : Lane) : (s.setLane k l).profile = s.profile := rfl
@[simp] theorem setLane_store (k : LaneId) (l : Lane) : (s.setLane k l).store = s.store := rfl
@[simp] theorem setLane_staging (k : LaneId) (l : Lane) : (s.setLane k l).staging = s.staging := rfl
@[simp] theorem setLane_refund (k : LaneId) (l : Lane) : (s.setLane k l).refund = s.refund := rfl
@[simp] theorem setLane_engine (k : LaneId) (l : Lane) : (s.setLane k l).engine = s.engine := rfl
@[simp] theorem setLane_lanes (k : LaneId) (l : Lane) : (s.setLane k l).lanes = s.lanes.set k.val l := rfl
@[simp] theorem setLane_count (k : LaneId) (l : Lane) : (s.setLane k l).count = s.count := rfl
@[simp] theorem setLane_timebase (k : LaneId) (l : Lane) : (s.setLane k l).timebase = s.timebase := rfl
@[simp] theorem setLane_notices (k : LaneId) (l : Lane) : (s.setLane k l).notices = s.notices := rfl
@[simp] theorem setLane_lanePorts (k : LaneId) (l : Lane) : (s.setLane k l).lanePorts = s.lanePorts := rfl
@[simp] theorem setLane_stationPorts (k : LaneId) (l : Lane) : (s.setLane k l).stationPorts = s.stationPorts := rfl
@[simp] theorem setLane_countsInFlight (k : LaneId) (l : Lane) : (s.setLane k l).countsInFlight = s.countsInFlight := rfl
@[simp] theorem setLane_postsInFlight (k : LaneId) (l : Lane) : (s.setLane k l).postsInFlight = s.postsInFlight := rfl
@[simp] theorem setLane_pending (k : LaneId) (l : Lane) : (s.setLane k l).pending = s.pending := rfl

/-! ### setNoticePort -/

@[simp] theorem setNoticePort_phase (i : StationId) (n : NoticePort) : (s.setNoticePort i n).phase = s.phase := rfl
@[simp] theorem setNoticePort_elapsed (i : StationId) (n : NoticePort) : (s.setNoticePort i n).elapsed = s.elapsed := rfl
@[simp] theorem setNoticePort_restartDue (i : StationId) (n : NoticePort) : (s.setNoticePort i n).restartDue = s.restartDue := rfl
@[simp] theorem setNoticePort_profile (i : StationId) (n : NoticePort) : (s.setNoticePort i n).profile = s.profile := rfl
@[simp] theorem setNoticePort_store (i : StationId) (n : NoticePort) : (s.setNoticePort i n).store = s.store := rfl
@[simp] theorem setNoticePort_staging (i : StationId) (n : NoticePort) : (s.setNoticePort i n).staging = s.staging := rfl
@[simp] theorem setNoticePort_refund (i : StationId) (n : NoticePort) : (s.setNoticePort i n).refund = s.refund := rfl
@[simp] theorem setNoticePort_engine (i : StationId) (n : NoticePort) : (s.setNoticePort i n).engine = s.engine := rfl
@[simp] theorem setNoticePort_lanes (i : StationId) (n : NoticePort) : (s.setNoticePort i n).lanes = s.lanes := rfl
@[simp] theorem setNoticePort_count (i : StationId) (n : NoticePort) : (s.setNoticePort i n).count = s.count := rfl
@[simp] theorem setNoticePort_timebase (i : StationId) (n : NoticePort) : (s.setNoticePort i n).timebase = s.timebase := rfl
@[simp] theorem setNoticePort_notices (i : StationId) (n : NoticePort) : (s.setNoticePort i n).notices = s.notices.set i.val n := rfl
@[simp] theorem setNoticePort_lanePorts (i : StationId) (n : NoticePort) : (s.setNoticePort i n).lanePorts = s.lanePorts := rfl
@[simp] theorem setNoticePort_stationPorts (i : StationId) (n : NoticePort) : (s.setNoticePort i n).stationPorts = s.stationPorts := rfl
@[simp] theorem setNoticePort_countsInFlight (i : StationId) (n : NoticePort) : (s.setNoticePort i n).countsInFlight = s.countsInFlight := rfl
@[simp] theorem setNoticePort_postsInFlight (i : StationId) (n : NoticePort) : (s.setNoticePort i n).postsInFlight = s.postsInFlight := rfl
@[simp] theorem setNoticePort_pending (i : StationId) (n : NoticePort) : (s.setNoticePort i n).pending = s.pending := rfl

/-! ### postAll -/

@[simp] theorem postAll_phase (ds : List NoticeDetail) : (s.postAll ds).phase = s.phase := rfl
@[simp] theorem postAll_elapsed (ds : List NoticeDetail) : (s.postAll ds).elapsed = s.elapsed := rfl
@[simp] theorem postAll_restartDue (ds : List NoticeDetail) : (s.postAll ds).restartDue = s.restartDue := rfl
@[simp] theorem postAll_profile (ds : List NoticeDetail) : (s.postAll ds).profile = s.profile := rfl
@[simp] theorem postAll_store (ds : List NoticeDetail) : (s.postAll ds).store = s.store := rfl
@[simp] theorem postAll_staging (ds : List NoticeDetail) : (s.postAll ds).staging = s.staging := rfl
@[simp] theorem postAll_refund (ds : List NoticeDetail) : (s.postAll ds).refund = s.refund := rfl
@[simp] theorem postAll_engine (ds : List NoticeDetail) : (s.postAll ds).engine = s.engine := rfl
@[simp] theorem postAll_lanes (ds : List NoticeDetail) : (s.postAll ds).lanes = s.lanes := rfl
@[simp] theorem postAll_count (ds : List NoticeDetail) : (s.postAll ds).count = s.count := rfl
@[simp] theorem postAll_timebase (ds : List NoticeDetail) : (s.postAll ds).timebase = s.timebase := rfl
@[simp] theorem postAll_notices (ds : List NoticeDetail) : (s.postAll ds).notices = s.notices := rfl
@[simp] theorem postAll_lanePorts (ds : List NoticeDetail) : (s.postAll ds).lanePorts = s.lanePorts := rfl
@[simp] theorem postAll_stationPorts (ds : List NoticeDetail) : (s.postAll ds).stationPorts = s.stationPorts := rfl
@[simp] theorem postAll_countsInFlight (ds : List NoticeDetail) : (s.postAll ds).countsInFlight = s.countsInFlight := rfl
@[simp] theorem postAll_postsInFlight (ds : List NoticeDetail) : (s.postAll ds).postsInFlight = s.postsInFlight ++ ds := rfl
@[simp] theorem postAll_pending (ds : List NoticeDetail) : (s.postAll ds).pending = s.pending := rfl

/-! ### post -/

@[simp] theorem post_phase (d : NoticeDetail) : (s.post d).phase = s.phase := rfl
@[simp] theorem post_elapsed (d : NoticeDetail) : (s.post d).elapsed = s.elapsed := rfl
@[simp] theorem post_restartDue (d : NoticeDetail) : (s.post d).restartDue = s.restartDue := rfl
@[simp] theorem post_profile (d : NoticeDetail) : (s.post d).profile = s.profile := rfl
@[simp] theorem post_store (d : NoticeDetail) : (s.post d).store = s.store := rfl
@[simp] theorem post_staging (d : NoticeDetail) : (s.post d).staging = s.staging := rfl
@[simp] theorem post_refund (d : NoticeDetail) : (s.post d).refund = s.refund := rfl
@[simp] theorem post_engine (d : NoticeDetail) : (s.post d).engine = s.engine := rfl
@[simp] theorem post_lanes (d : NoticeDetail) : (s.post d).lanes = s.lanes := rfl
@[simp] theorem post_count (d : NoticeDetail) : (s.post d).count = s.count := rfl
@[simp] theorem post_timebase (d : NoticeDetail) : (s.post d).timebase = s.timebase := rfl
@[simp] theorem post_notices (d : NoticeDetail) : (s.post d).notices = s.notices := rfl
@[simp] theorem post_lanePorts (d : NoticeDetail) : (s.post d).lanePorts = s.lanePorts := rfl
@[simp] theorem post_stationPorts (d : NoticeDetail) : (s.post d).stationPorts = s.stationPorts := rfl
@[simp] theorem post_countsInFlight (d : NoticeDetail) : (s.post d).countsInFlight = s.countsInFlight := rfl
@[simp] theorem post_postsInFlight (d : NoticeDetail) : (s.post d).postsInFlight = s.postsInFlight ++ [d] := rfl
@[simp] theorem post_pending (d : NoticeDetail) : (s.post d).pending = s.pending := rfl

/-! ### sendAll -/

@[simp] theorem sendAll_phase (evs : List CountEvent) : (s.sendAll evs).phase = s.phase := rfl
@[simp] theorem sendAll_elapsed (evs : List CountEvent) : (s.sendAll evs).elapsed = s.elapsed := rfl
@[simp] theorem sendAll_restartDue (evs : List CountEvent) : (s.sendAll evs).restartDue = s.restartDue := rfl
@[simp] theorem sendAll_profile (evs : List CountEvent) : (s.sendAll evs).profile = s.profile := rfl
@[simp] theorem sendAll_store (evs : List CountEvent) : (s.sendAll evs).store = s.store := rfl
@[simp] theorem sendAll_staging (evs : List CountEvent) : (s.sendAll evs).staging = s.staging := rfl
@[simp] theorem sendAll_refund (evs : List CountEvent) : (s.sendAll evs).refund = s.refund := rfl
@[simp] theorem sendAll_engine (evs : List CountEvent) : (s.sendAll evs).engine = s.engine := rfl
@[simp] theorem sendAll_lanes (evs : List CountEvent) : (s.sendAll evs).lanes = s.lanes := rfl
@[simp] theorem sendAll_count (evs : List CountEvent) : (s.sendAll evs).count = s.count := rfl
@[simp] theorem sendAll_timebase (evs : List CountEvent) : (s.sendAll evs).timebase = s.timebase := rfl
@[simp] theorem sendAll_notices (evs : List CountEvent) : (s.sendAll evs).notices = s.notices := rfl
@[simp] theorem sendAll_lanePorts (evs : List CountEvent) : (s.sendAll evs).lanePorts = s.lanePorts := rfl
@[simp] theorem sendAll_stationPorts (evs : List CountEvent) : (s.sendAll evs).stationPorts = s.stationPorts := rfl
@[simp] theorem sendAll_countsInFlight (evs : List CountEvent) : (s.sendAll evs).countsInFlight = s.countsInFlight ++ evs := rfl
@[simp] theorem sendAll_postsInFlight (evs : List CountEvent) : (s.sendAll evs).postsInFlight = s.postsInFlight := rfl
@[simp] theorem sendAll_pending (evs : List CountEvent) : (s.sendAll evs).pending = s.pending := rfl

/-! ### send -/

@[simp] theorem send_phase (ev : CountEvent) : (s.send ev).phase = s.phase := rfl
@[simp] theorem send_elapsed (ev : CountEvent) : (s.send ev).elapsed = s.elapsed := rfl
@[simp] theorem send_restartDue (ev : CountEvent) : (s.send ev).restartDue = s.restartDue := rfl
@[simp] theorem send_profile (ev : CountEvent) : (s.send ev).profile = s.profile := rfl
@[simp] theorem send_store (ev : CountEvent) : (s.send ev).store = s.store := rfl
@[simp] theorem send_staging (ev : CountEvent) : (s.send ev).staging = s.staging := rfl
@[simp] theorem send_refund (ev : CountEvent) : (s.send ev).refund = s.refund := rfl
@[simp] theorem send_engine (ev : CountEvent) : (s.send ev).engine = s.engine := rfl
@[simp] theorem send_lanes (ev : CountEvent) : (s.send ev).lanes = s.lanes := rfl
@[simp] theorem send_count (ev : CountEvent) : (s.send ev).count = s.count := rfl
@[simp] theorem send_timebase (ev : CountEvent) : (s.send ev).timebase = s.timebase := rfl
@[simp] theorem send_notices (ev : CountEvent) : (s.send ev).notices = s.notices := rfl
@[simp] theorem send_lanePorts (ev : CountEvent) : (s.send ev).lanePorts = s.lanePorts := rfl
@[simp] theorem send_stationPorts (ev : CountEvent) : (s.send ev).stationPorts = s.stationPorts := rfl
@[simp] theorem send_countsInFlight (ev : CountEvent) : (s.send ev).countsInFlight = s.countsInFlight ++ [ev] := rfl
@[simp] theorem send_postsInFlight (ev : CountEvent) : (s.send ev).postsInFlight = s.postsInFlight := rfl
@[simp] theorem send_pending (ev : CountEvent) : (s.send ev).pending = s.pending := rfl

/-! ### submitAll -/

@[simp] theorem submitAll_phase (ts : List Task) : (s.submitAll ts).phase = s.phase := rfl
@[simp] theorem submitAll_elapsed (ts : List Task) : (s.submitAll ts).elapsed = s.elapsed := rfl
@[simp] theorem submitAll_restartDue (ts : List Task) : (s.submitAll ts).restartDue = s.restartDue := rfl
@[simp] theorem submitAll_profile (ts : List Task) : (s.submitAll ts).profile = s.profile := rfl
@[simp] theorem submitAll_store (ts : List Task) : (s.submitAll ts).store = s.store := rfl
@[simp] theorem submitAll_staging (ts : List Task) : (s.submitAll ts).staging = s.staging := rfl
@[simp] theorem submitAll_refund (ts : List Task) : (s.submitAll ts).refund = s.refund := rfl
@[simp] theorem submitAll_engine (ts : List Task) : (s.submitAll ts).engine = { s.engine with tasks := s.engine.tasks ++ ts } := rfl
@[simp] theorem submitAll_lanes (ts : List Task) : (s.submitAll ts).lanes = s.lanes := rfl
@[simp] theorem submitAll_count (ts : List Task) : (s.submitAll ts).count = s.count := rfl
@[simp] theorem submitAll_timebase (ts : List Task) : (s.submitAll ts).timebase = s.timebase := rfl
@[simp] theorem submitAll_notices (ts : List Task) : (s.submitAll ts).notices = s.notices := rfl
@[simp] theorem submitAll_lanePorts (ts : List Task) : (s.submitAll ts).lanePorts = s.lanePorts := rfl
@[simp] theorem submitAll_stationPorts (ts : List Task) : (s.submitAll ts).stationPorts = s.stationPorts := rfl
@[simp] theorem submitAll_countsInFlight (ts : List Task) : (s.submitAll ts).countsInFlight = s.countsInFlight := rfl
@[simp] theorem submitAll_postsInFlight (ts : List Task) : (s.submitAll ts).postsInFlight = s.postsInFlight := rfl
@[simp] theorem submitAll_pending (ts : List Task) : (s.submitAll ts).pending = s.pending := rfl

/-! ### enqueue -/

@[simp] theorem enqueue_phase (r : Request) : (s.enqueue r).phase = s.phase := rfl
@[simp] theorem enqueue_elapsed (r : Request) : (s.enqueue r).elapsed = s.elapsed := rfl
@[simp] theorem enqueue_restartDue (r : Request) : (s.enqueue r).restartDue = s.restartDue := rfl
@[simp] theorem enqueue_profile (r : Request) : (s.enqueue r).profile = s.profile := rfl
@[simp] theorem enqueue_store (r : Request) : (s.enqueue r).store = s.store := rfl
@[simp] theorem enqueue_staging (r : Request) : (s.enqueue r).staging = s.staging := rfl
@[simp] theorem enqueue_refund (r : Request) : (s.enqueue r).refund = s.refund := rfl
@[simp] theorem enqueue_engine (r : Request) : (s.enqueue r).engine = { s.engine with pendingSet := insertRequest r s.engine.pendingSet } := rfl
@[simp] theorem enqueue_lanes (r : Request) : (s.enqueue r).lanes = s.lanes := rfl
@[simp] theorem enqueue_count (r : Request) : (s.enqueue r).count = s.count := rfl
@[simp] theorem enqueue_timebase (r : Request) : (s.enqueue r).timebase = s.timebase := rfl
@[simp] theorem enqueue_notices (r : Request) : (s.enqueue r).notices = s.notices := rfl
@[simp] theorem enqueue_lanePorts (r : Request) : (s.enqueue r).lanePorts = s.lanePorts := rfl
@[simp] theorem enqueue_stationPorts (r : Request) : (s.enqueue r).stationPorts = s.stationPorts := rfl
@[simp] theorem enqueue_countsInFlight (r : Request) : (s.enqueue r).countsInFlight = s.countsInFlight := rfl
@[simp] theorem enqueue_postsInFlight (r : Request) : (s.enqueue r).postsInFlight = s.postsInFlight := rfl
@[simp] theorem enqueue_pending (r : Request) : (s.enqueue r).pending = s.pending := rfl

/-! ### setRecord -/

@[simp] theorem setRecord_phase (n : Nat) (f : PassRecord → PassRecord) : (s.setRecord n f).phase = s.phase := rfl
@[simp] theorem setRecord_elapsed (n : Nat) (f : PassRecord → PassRecord) : (s.setRecord n f).elapsed = s.elapsed := rfl
@[simp] theorem setRecord_restartDue (n : Nat) (f : PassRecord → PassRecord) : (s.setRecord n f).restartDue = s.restartDue := rfl
@[simp] theorem setRecord_profile (n : Nat) (f : PassRecord → PassRecord) : (s.setRecord n f).profile = s.profile := rfl
@[simp] theorem setRecord_store (n : Nat) (f : PassRecord → PassRecord) : (s.setRecord n f).store = updateRecord s.store n f := rfl
@[simp] theorem setRecord_staging (n : Nat) (f : PassRecord → PassRecord) : (s.setRecord n f).staging = s.staging := rfl
@[simp] theorem setRecord_refund (n : Nat) (f : PassRecord → PassRecord) : (s.setRecord n f).refund = s.refund := rfl
@[simp] theorem setRecord_engine (n : Nat) (f : PassRecord → PassRecord) : (s.setRecord n f).engine = s.engine := rfl
@[simp] theorem setRecord_lanes (n : Nat) (f : PassRecord → PassRecord) : (s.setRecord n f).lanes = s.lanes := rfl
@[simp] theorem setRecord_count (n : Nat) (f : PassRecord → PassRecord) : (s.setRecord n f).count = s.count := rfl
@[simp] theorem setRecord_timebase (n : Nat) (f : PassRecord → PassRecord) : (s.setRecord n f).timebase = s.timebase := rfl
@[simp] theorem setRecord_notices (n : Nat) (f : PassRecord → PassRecord) : (s.setRecord n f).notices = s.notices := rfl
@[simp] theorem setRecord_lanePorts (n : Nat) (f : PassRecord → PassRecord) : (s.setRecord n f).lanePorts = s.lanePorts := rfl
@[simp] theorem setRecord_stationPorts (n : Nat) (f : PassRecord → PassRecord) : (s.setRecord n f).stationPorts = s.stationPorts := rfl
@[simp] theorem setRecord_countsInFlight (n : Nat) (f : PassRecord → PassRecord) : (s.setRecord n f).countsInFlight = s.countsInFlight := rfl
@[simp] theorem setRecord_postsInFlight (n : Nat) (f : PassRecord → PassRecord) : (s.setRecord n f).postsInFlight = s.postsInFlight := rfl
@[simp] theorem setRecord_pending (n : Nat) (f : PassRecord → PassRecord) : (s.setRecord n f).pending = s.pending := rfl

/-! ### restage -/

@[simp] theorem restage_phase (b : Buffer) : (s.restage b).phase = s.phase := rfl
@[simp] theorem restage_elapsed (b : Buffer) : (s.restage b).elapsed = s.elapsed := rfl
@[simp] theorem restage_restartDue (b : Buffer) : (s.restage b).restartDue = s.restartDue := rfl
@[simp] theorem restage_profile (b : Buffer) : (s.restage b).profile = s.profile := rfl
@[simp] theorem restage_store (b : Buffer) : (s.restage b).store = s.store := rfl
@[simp] theorem restage_staging (b : Buffer) : (s.restage b).staging = .opened b s.elapsed := rfl
@[simp] theorem restage_refund (b : Buffer) : (s.restage b).refund = s.refund := rfl
@[simp] theorem restage_engine (b : Buffer) : (s.restage b).engine = s.engine := rfl
@[simp] theorem restage_lanes (b : Buffer) : (s.restage b).lanes = s.lanes := rfl
@[simp] theorem restage_count (b : Buffer) : (s.restage b).count = s.count := rfl
@[simp] theorem restage_timebase (b : Buffer) : (s.restage b).timebase = s.timebase := rfl
@[simp] theorem restage_notices (b : Buffer) : (s.restage b).notices = s.notices := rfl
@[simp] theorem restage_lanePorts (b : Buffer) : (s.restage b).lanePorts = s.lanePorts := rfl
@[simp] theorem restage_stationPorts (b : Buffer) : (s.restage b).stationPorts = s.stationPorts := rfl
@[simp] theorem restage_countsInFlight (b : Buffer) : (s.restage b).countsInFlight = s.countsInFlight := rfl
@[simp] theorem restage_postsInFlight (b : Buffer) : (s.restage b).postsInFlight = s.postsInFlight := rfl
@[simp] theorem restage_pending (b : Buffer) : (s.restage b).pending = s.pending := rfl

/-! ### applyLane -/

@[simp] theorem applyLane_phase (k : LaneId) (o : LaneOut) : (s.applyLane k o).phase = s.phase := rfl
@[simp] theorem applyLane_elapsed (k : LaneId) (o : LaneOut) : (s.applyLane k o).elapsed = s.elapsed := rfl
@[simp] theorem applyLane_restartDue (k : LaneId) (o : LaneOut) : (s.applyLane k o).restartDue = s.restartDue := rfl
@[simp] theorem applyLane_profile (k : LaneId) (o : LaneOut) : (s.applyLane k o).profile = s.profile := rfl
@[simp] theorem applyLane_store (k : LaneId) (o : LaneOut) : (s.applyLane k o).store = s.store := rfl
@[simp] theorem applyLane_staging (k : LaneId) (o : LaneOut) : (s.applyLane k o).staging = s.staging := rfl
@[simp] theorem applyLane_refund (k : LaneId) (o : LaneOut) : (s.applyLane k o).refund = s.refund := rfl
@[simp] theorem applyLane_engine (k : LaneId) (o : LaneOut) : (s.applyLane k o).engine = { s.engine with tasks := s.engine.tasks ++ o.tasks } := rfl
@[simp] theorem applyLane_lanes (k : LaneId) (o : LaneOut) : (s.applyLane k o).lanes = s.lanes.set k.val o.lane := rfl
@[simp] theorem applyLane_count (k : LaneId) (o : LaneOut) : (s.applyLane k o).count = s.count := rfl
@[simp] theorem applyLane_timebase (k : LaneId) (o : LaneOut) : (s.applyLane k o).timebase = s.timebase := rfl
@[simp] theorem applyLane_notices (k : LaneId) (o : LaneOut) : (s.applyLane k o).notices = s.notices := rfl
@[simp] theorem applyLane_lanePorts (k : LaneId) (o : LaneOut) : (s.applyLane k o).lanePorts = s.lanePorts := rfl
@[simp] theorem applyLane_stationPorts (k : LaneId) (o : LaneOut) : (s.applyLane k o).stationPorts = s.stationPorts := rfl
@[simp] theorem applyLane_countsInFlight (k : LaneId) (o : LaneOut) : (s.applyLane k o).countsInFlight = s.countsInFlight ++ o.counts := rfl
@[simp] theorem applyLane_postsInFlight (k : LaneId) (o : LaneOut) : (s.applyLane k o).postsInFlight = s.postsInFlight ++ o.posts := rfl
@[simp] theorem applyLane_pending (k : LaneId) (o : LaneOut) : (s.applyLane k o).pending = s.pending := rfl

/-! ### setPort -/

@[simp] theorem setPort_phase (p : Port) (ps : PortState) : (s.setPort p ps).phase = s.phase := by cases p <;> rfl
@[simp] theorem setPort_elapsed (p : Port) (ps : PortState) : (s.setPort p ps).elapsed = s.elapsed := by cases p <;> rfl
@[simp] theorem setPort_restartDue (p : Port) (ps : PortState) : (s.setPort p ps).restartDue = s.restartDue := by cases p <;> rfl
@[simp] theorem setPort_profile (p : Port) (ps : PortState) : (s.setPort p ps).profile = s.profile := by cases p <;> rfl
@[simp] theorem setPort_store (p : Port) (ps : PortState) : (s.setPort p ps).store = s.store := by cases p <;> rfl
@[simp] theorem setPort_staging (p : Port) (ps : PortState) : (s.setPort p ps).staging = s.staging := by cases p <;> rfl
@[simp] theorem setPort_refund (p : Port) (ps : PortState) : (s.setPort p ps).refund = s.refund := by cases p <;> rfl
@[simp] theorem setPort_engine (p : Port) (ps : PortState) : (s.setPort p ps).engine = s.engine := by cases p <;> rfl
@[simp] theorem setPort_lanes (p : Port) (ps : PortState) : (s.setPort p ps).lanes = s.lanes := by cases p <;> rfl
@[simp] theorem setPort_count (p : Port) (ps : PortState) : (s.setPort p ps).count = s.count := by cases p <;> rfl
@[simp] theorem setPort_timebase (p : Port) (ps : PortState) : (s.setPort p ps).timebase = s.timebase := by cases p <;> rfl
@[simp] theorem setPort_notices (p : Port) (ps : PortState) : (s.setPort p ps).notices = s.notices := by cases p <;> rfl
@[simp] theorem setPort_countsInFlight (p : Port) (ps : PortState) : (s.setPort p ps).countsInFlight = s.countsInFlight := by cases p <;> rfl
@[simp] theorem setPort_postsInFlight (p : Port) (ps : PortState) : (s.setPort p ps).postsInFlight = s.postsInFlight := by cases p <;> rfl
@[simp] theorem setPort_pending (p : Port) (ps : PortState) : (s.setPort p ps).pending = s.pending := by cases p <;> rfl

/-! ### respond -/

@[simp] theorem respond_phase (p : Port) (c : Code) (b : List Byte) : (s.respond p c b).phase = s.phase := by cases p <;> rfl
@[simp] theorem respond_elapsed (p : Port) (c : Code) (b : List Byte) : (s.respond p c b).elapsed = s.elapsed := by cases p <;> rfl
@[simp] theorem respond_restartDue (p : Port) (c : Code) (b : List Byte) : (s.respond p c b).restartDue = s.restartDue := by cases p <;> rfl
@[simp] theorem respond_profile (p : Port) (c : Code) (b : List Byte) : (s.respond p c b).profile = s.profile := by cases p <;> rfl
@[simp] theorem respond_store (p : Port) (c : Code) (b : List Byte) : (s.respond p c b).store = s.store := by cases p <;> rfl
@[simp] theorem respond_staging (p : Port) (c : Code) (b : List Byte) : (s.respond p c b).staging = s.staging := by cases p <;> rfl
@[simp] theorem respond_refund (p : Port) (c : Code) (b : List Byte) : (s.respond p c b).refund = s.refund := by cases p <;> rfl
@[simp] theorem respond_engine (p : Port) (c : Code) (b : List Byte) : (s.respond p c b).engine = s.engine := by cases p <;> rfl
@[simp] theorem respond_lanes (p : Port) (c : Code) (b : List Byte) : (s.respond p c b).lanes = s.lanes := by cases p <;> rfl
@[simp] theorem respond_count (p : Port) (c : Code) (b : List Byte) : (s.respond p c b).count = s.count := by cases p <;> rfl
@[simp] theorem respond_timebase (p : Port) (c : Code) (b : List Byte) : (s.respond p c b).timebase = s.timebase := by cases p <;> rfl
@[simp] theorem respond_notices (p : Port) (c : Code) (b : List Byte) : (s.respond p c b).notices = s.notices := by cases p <;> rfl
@[simp] theorem respond_countsInFlight (p : Port) (c : Code) (b : List Byte) : (s.respond p c b).countsInFlight = s.countsInFlight := by cases p <;> rfl
@[simp] theorem respond_postsInFlight (p : Port) (c : Code) (b : List Byte) : (s.respond p c b).postsInFlight = s.postsInFlight := by cases p <;> rfl
@[simp] theorem respond_pending (p : Port) (c : Code) (b : List Byte) : (s.respond p c b).pending = s.pending := by cases p <;> rfl

/-! ### answered -/

@[simp] theorem answered_phase (p : Port) (kind tag : Byte) (c : Code) (b : List Byte) : (s.answered p kind tag c b).phase = s.phase := by cases p <;> rfl
@[simp] theorem answered_elapsed (p : Port) (kind tag : Byte) (c : Code) (b : List Byte) : (s.answered p kind tag c b).elapsed = s.elapsed := by cases p <;> rfl
@[simp] theorem answered_restartDue (p : Port) (kind tag : Byte) (c : Code) (b : List Byte) : (s.answered p kind tag c b).restartDue = s.restartDue := by cases p <;> rfl
@[simp] theorem answered_profile (p : Port) (kind tag : Byte) (c : Code) (b : List Byte) : (s.answered p kind tag c b).profile = s.profile := by cases p <;> rfl
@[simp] theorem answered_store (p : Port) (kind tag : Byte) (c : Code) (b : List Byte) : (s.answered p kind tag c b).store = s.store := by cases p <;> rfl
@[simp] theorem answered_staging (p : Port) (kind tag : Byte) (c : Code) (b : List Byte) : (s.answered p kind tag c b).staging = s.staging := by cases p <;> rfl
@[simp] theorem answered_refund (p : Port) (kind tag : Byte) (c : Code) (b : List Byte) : (s.answered p kind tag c b).refund = s.refund := by cases p <;> rfl
@[simp] theorem answered_engine (p : Port) (kind tag : Byte) (c : Code) (b : List Byte) : (s.answered p kind tag c b).engine = s.engine := by cases p <;> rfl
@[simp] theorem answered_lanes (p : Port) (kind tag : Byte) (c : Code) (b : List Byte) : (s.answered p kind tag c b).lanes = s.lanes := by cases p <;> rfl
@[simp] theorem answered_count (p : Port) (kind tag : Byte) (c : Code) (b : List Byte) : (s.answered p kind tag c b).count = s.count := by cases p <;> rfl
@[simp] theorem answered_timebase (p : Port) (kind tag : Byte) (c : Code) (b : List Byte) : (s.answered p kind tag c b).timebase = s.timebase := by cases p <;> rfl
@[simp] theorem answered_notices (p : Port) (kind tag : Byte) (c : Code) (b : List Byte) : (s.answered p kind tag c b).notices = s.notices := by cases p <;> rfl
@[simp] theorem answered_countsInFlight (p : Port) (kind tag : Byte) (c : Code) (b : List Byte) : (s.answered p kind tag c b).countsInFlight = s.countsInFlight := by cases p <;> rfl
@[simp] theorem answered_postsInFlight (p : Port) (kind tag : Byte) (c : Code) (b : List Byte) : (s.answered p kind tag c b).postsInFlight = s.postsInFlight := by cases p <;> rfl
@[simp] theorem answered_pending (p : Port) (kind tag : Byte) (c : Code) (b : List Byte) : (s.answered p kind tag c b).pending = s.pending := by cases p <;> rfl

/-! ### Reading back -/

/-- A lane reads as it was set; the others as before. -/
@[simp] theorem setLane_lane (k j : LaneId) (l : Lane) : (s.setLane k l).lane j = if j = k then l else s.lane j := by
  by_cases h : j = k
  · subst h; simp [State.lane]
  · have : k.val ≠ j.val := fun e => h (Fin.ext e.symm)
    simp [State.lane, h, this]

/-- A lane reads as its event left it; the others as before. -/
@[simp] theorem applyLane_lane (k j : LaneId) (o : LaneOut) :
    (s.applyLane k o).lane j = if j = k then o.lane else s.lane j := setLane_lane s k j o.lane

/-- A port reads as it was set; the others as before. -/
@[simp] theorem setPort_port (p q : Port) (ps : PortState) :
    (s.setPort p ps).port q = if q = p then ps else s.port q := by
  cases p with
  | lane k =>
    cases q with
    | lane j =>
      by_cases h : j = k
      · subst h; simp [State.setPort, State.port]
      · have : k.val ≠ j.val := fun e => h (Fin.ext e.symm)
        simp [State.setPort, State.port, h, this]
    | station i => simp [State.setPort, State.port]
  | station k =>
    cases q with
    | lane j => simp [State.setPort, State.port]
    | station i =>
      by_cases h : i = k
      · subst h; simp [State.setPort, State.port]
      · have : k.val ≠ i.val := fun e => h (Fin.ext e.symm)
        simp [State.setPort, State.port, h, this]

/-- Setting a port twice is setting it once. -/
@[simp] theorem setPort_setPort (p : Port) (ps qs : PortState) : (s.setPort p ps).setPort p qs = s.setPort p qs := by
  cases p <;> simp [State.setPort]

/-- Setting a port to what it holds changes nothing. -/
@[simp] theorem setPort_port_self (p : Port) : s.setPort p (s.port p) = s := by
  cases p <;> simp [State.setPort, State.port]

/-- A notice port reads as it was set; the other as before. -/
@[simp] theorem setNoticePort_noticePort (i j : StationId) (n : NoticePort) :
    (s.setNoticePort i n).noticePort j = if j = i then n else s.noticePort j := by
  by_cases h : j = i
  · subst h; simp [State.noticePort]
  · have : i.val ≠ j.val := fun e => h (Fin.ext e.symm)
    simp [State.noticePort, h, this]

end Sys2Proof.Machine
end

