-- ==== Sys2Proof/Laws/Ports.lean ====
section
/-! SUPPORT. What the shared operations of the ports do: a request that is received, and the answer of a pending request. -/

namespace Sys2Proof.Machine

variable {s : State} {p : Port}

/-- Ready positions hold no reserved one. -/
theorem hasPending_of_all_ready {ps : PortState} (h : ∀ q ∈ ps.positions, q.isReady = true) : ps.hasPending = false := by
  simp only [PortState.hasPending, List.any_eq_false]
  intro q hq
  have := h q hq
  cases q <;> simp_all [Position.isReady, Position.isReserved]

/-- Ready positions stay as they are when a BUSY response is looked for. -/
theorem readyBusy_of_all_ready {qs : List Position} (h : ∀ q ∈ qs, q.isReady = true) : readyBusy qs = qs := by
  induction qs with
  | nil => rfl
  | cons q rest ih =>
    have hq := h q (by simp)
    cases q <;> simp_all [Position.isReady, readyBusy]

/-- The pending request's position is filled behind the ready ones. -/
theorem fillReserved_of_all_ready {qs : List Position} (kind tag : Byte) (code : Code) (body : List Byte)
    (h : ∀ q ∈ qs, q.isReady = true) :
    fillReserved code body (qs ++ [.reserved kind tag]) =
      qs ++ [.ready { kind := kind, tag := tag, code := code, body := body }] := by
  induction qs with
  | nil => rfl
  | cons q rest ih =>
    have hq := h q (by simp)
    cases q <;> simp_all [Position.isReady, fillReserved]

/-- A request accepted at a free port and answered leaves its response behind those there. -/
theorem take_answer {ps : PortState} (kind tag : Byte) (code : Code) (body : List Byte)
    (h : ∀ q ∈ ps.positions, q.isReady = true) :
    (ps.take (.reserved kind tag)).answer code body =
      ps.take (.ready { kind := kind, tag := tag, code := code, body := body }) := by
  have hr : ∀ q ∈ ps.positions ++ [Position.ready { kind := kind, tag := tag, code := code, body := body }],
      q.isReady = true := by
    intro q hq
    rcases List.mem_append.mp hq with hq | hq
    · exact h q hq
    · rw [List.mem_singleton.mp hq]; rfl
  simp [PortState.take, PortState.answer, fillReserved_of_all_ready kind tag code body h, readyBusy_of_all_ready hr]

/-- A frame at a port with both positions taken is discarded (R157). -/
theorem receive_full (kind tag : Byte) (judge : State → State) (h : (s.port p).isFull = true) :
    s.receive p kind tag judge = s := by simp [State.receive, h]

/-- A sound frame at a port with a pending request and a free position reserves a BUSY response (R157). -/
theorem receive_pending (kind tag : Byte) (judge : State → State) (hf : (s.port p).isFull = false)
    (hp : (s.port p).hasPending = true) :
    s.receive p kind tag judge = s.setPort p ((s.port p).take (.busy kind tag)) := by simp [State.receive, hf, hp]

/-- A sound frame at a free port becomes pending and is judged (R157). -/
theorem receive_free (kind tag : Byte) (judge : State → State) (h : PortFree s p) :
    s.receive p kind tag judge = judge (s.setPort p ((s.port p).take (.reserved kind tag))) := by
  have hf : (s.port p).isFull = false := by simp [PortState.isFull, h.1]
  simp [State.receive, hf, hasPending_of_all_ready h.2]

/-- The request accepted last at a port is answered in its position. -/
theorem respond_reserved (kind tag : Byte) (code : Code) (body : List Byte) (h : PortFree s p) :
    (s.setPort p ((s.port p).take (.reserved kind tag))).respond p code body = s.answered p kind tag code body := by
  simp [State.respond, State.answered, take_answer kind tag code body h.2]

/-- What becomes of a request of a known kind at a free port: refused, or served (R158). -/
theorem request_free (k : Kind) (tag : Byte) (serve : State → State) (h : PortFree s p) :
    s.request p k tag serve =
      if permitted k p = false then s.answered p k.code tag .notPermitted []
      else if s.phase = .starting then s.answered p k.code tag .notReady []
      else serve (s.setPort p ((s.port p).take (.reserved k.code tag))) := by
  simp only [State.request, receive_free _ _ _ h, State.judge, respond_reserved _ _ _ _ h, setPort_phase]

/-- A request that a unit serves at once, at a free port of a READY device: the service, and its response (R158, R159). -/
theorem requestUnit_open (k : Kind) (tag : Byte) (serve : State → Served) (h : Open s p) (hp : permitted k p = true) :
    s.requestUnit p k tag serve =
      (serve (s.setPort p ((s.port p).take (.reserved k.code tag)))).answerAt p := by
  simp [State.requestUnit, request_free k tag _ h.2, hp, h.1]

/-- A request for the table engine, at a free port of a READY device, enters the pending set (R20). -/
theorem requestEngine_open (k : Kind) (tag : Byte) (body : List Byte) (h : Open s p) (hp : permitted k p = true) :
    s.requestEngine p k tag body =
      (s.setPort p ((s.port p).take (.reserved k.code tag))).enqueue
        { port := p, kind := k, tag := tag, body := body, left := false } := by
  simp [State.requestEngine, request_free k tag _ h.2, hp, h.1]

/-! ### Updates of different parts commute with a port's -/

/-- A port and a lane. -/
theorem setPort_setLane (ps : PortState) (k : LaneId) (l : Lane) :
    (s.setPort p ps).setLane k l = (s.setLane k l).setPort p ps := by cases p <;> rfl

/-- A port and the event of a lane. -/
theorem setPort_applyLane (ps : PortState) (k : LaneId) (o : LaneOut) :
    (s.setPort p ps).applyLane k o = (s.applyLane k o).setPort p ps := by cases p <;> rfl

/-- A port and a notice queue. -/
theorem setPort_setNoticePort (ps : PortState) (i : StationId) (n : NoticePort) :
    (s.setPort p ps).setNoticePort i n = (s.setNoticePort i n).setPort p ps := by cases p <;> rfl

/-- A port and a closing of the open interval. -/
theorem setPort_closeInterval (ps : PortState) (stop : Nat) (flag : IntervalFlags) (newStart heldAt : Nat) :
    closeInterval (s.setPort p ps) stop flag newStart heldAt = (closeInterval s stop flag newStart heldAt).setPort p ps := by
  by_cases h : s.count.log.length < Config.logMax <;> cases p <;>
    simp [closeInterval, h, State.setPort, State.post, State.postAll]

/-- A port and a day change. -/
theorem setPort_settleDay (ps : PortState) : settleDay (s.setPort p ps) = (settleDay s).setPort p ps := by
  have hd : (s.setPort p ps).dayDue = s.dayDue := by cases p <;> rfl
  cases h : s.dayDue <;> cases p <;> simp [settleDay, hd, h] <;> rfl

/-! ### The lines -/

@[simp] theorem arrive_pending (cs : List Instr) : (s.arrive cs).pending = s.pending ++ cs := rfl
@[simp] theorem arrive_phase (cs : List Instr) : (s.arrive cs).phase = s.phase := rfl
@[simp] theorem arrive_port (cs : List Instr) : (s.arrive cs).port p = s.port p := by cases p <;> rfl
@[simp] theorem arrive_nil : s.arrive [] = s := by simp [State.arrive]
@[simp] theorem arrive_arrive (cs ds : List Instr) : (s.arrive cs).arrive ds = s.arrive (cs ++ ds) := by
  simp [State.arrive]

/-- Commands that arrive and a port. -/
theorem setPort_arrive (ps : PortState) (cs : List Instr) : (s.arrive cs).setPort p ps = (s.setPort p ps).arrive cs := by
  cases p <;> rfl

/-- An edge of clock changes the line and the sent bits of its port, and commands may arrive; nothing else. -/
theorem clockEdge_spec (x : Bool) :
    ∃ (line : Line) (sent : Nat) (cs : List Instr),
      s.clockEdge p x = (s.setPort p { s.port p with line := line, sent := sent }).arrive cs := by
  by_cases h : (s.port p).line = .idle
  · exact ⟨(s.port p).line, (s.port p).sent, [], by
      rw [show s.clockEdge p x = s by simp [State.clockEdge, h], arrive_nil]; exact (setPort_port_self s p).symm⟩
  · exact ⟨_, _, _, by simp only [State.clockEdge, h, if_false]; rfl⟩

/-- So do many edges. -/
theorem clockBits_spec (bits : List Bool) :
    ∃ (line : Line) (sent : Nat) (cs : List Instr),
      s.clockBits p bits = (s.setPort p { s.port p with line := line, sent := sent }).arrive cs := by
  induction bits generalizing s with
  | nil => exact ⟨(s.port p).line, (s.port p).sent, [], by
    rw [show s.clockBits p [] = s from rfl, arrive_nil]; exact (setPort_port_self s p).symm⟩
  | cons x rest ih =>
    obtain ⟨l, n, cs, h⟩ := clockEdge_spec (s := s) (p := p) x
    obtain ⟨l', n', ds, h'⟩ := ih (s := s.clockEdge p x)
    refine ⟨l', n', cs ++ ds, ?_⟩
    rw [show s.clockBits p (x :: rest) = (s.clockEdge p x).clockBits p rest from rfl, h', h]
    simp [setPort_arrive]

/-! ### PORT RESET -/

/-- Without a request of the port that the engine would take next, both orders of a PORT RESET are one (R162). -/
theorem portResetInService_none (tag : Byte) (h : inService (settleDay s) p = none) :
    portResetInService s p tag = portReset s p tag := by simp [portResetInService, h]

/-- A request of the port in service is served after the reset (R27, R47). -/
theorem portResetInService_some (tag : Byte) {s1 : State} {r : Request} (h : inService (settleDay s) p = some (s1, r)) :
    portResetInService s p tag = serveWork (portReset s1 p tag) (.request r) := by simp [portResetInService, h]

/-- The request in service is one of the port, which has left the engine's pending set or deferred list. -/
theorem inService_spec {s1 : State} {r : Request} (h : inService s p = some (s1, r)) :
    s.engine.nextTask = none ∧ r.port = p ∧
      ((∃ rest, s.engine.deferred = .request r :: rest ∧ s1 = { s with engine := { s.engine with deferred := rest } }) ∨
        (s.engine.choose s.profile.policy = some r ∧ s1 = { s with engine := s.engine.takeRequest p })) := by
  have hd : ∀ {x}, deferredInService s p = some x → x = (s1, r) → r.port = p ∧
      ∃ rest, s.engine.deferred = .request r :: rest ∧ s1 = { s with engine := { s.engine with deferred := rest } } := by
    intro x hx e
    unfold deferredInService at hx
    split at hx
    · split at hx
      · cases hx; cases e; exact ⟨‹_›, _, ‹_›, rfl⟩
      · cases hx
    · cases hx
  have hp : ∀ {x}, pendingInService s p = some x → x = (s1, r) → r.port = p ∧
      s.engine.choose s.profile.policy = some r ∧ s1 = { s with engine := s.engine.takeRequest p } := by
    intro x hx e
    unfold pendingInService at hx
    split at hx
    · split at hx
      · cases hx; cases e; exact ⟨(‹_ ∧ _›).1, ‹_›, rfl⟩
      · cases hx
    · cases hx
  unfold inService at h
  split at h
  · cases h
  · exact ⟨‹_›, (hd h rfl).1, .inl (hd h rfl).2⟩
  · exact ⟨‹_›, (hp h rfl).1, .inr (hp h rfl).2⟩
  · exact ⟨‹_›, (hp h rfl).1, .inr (hp h rfl).2⟩

end Sys2Proof.Machine
end

