-- ==== Sys2Proof/Laws/Step.lean ====
section
/-! SUPPORT. What a step is, and what each part of the engine's taking of work can be. -/

namespace Sys2Proof.Machine

variable (s : State)

/-- A step on an empty queue changes nothing. -/
@[simp] theorem step_idle (h : s.pending = []) : step s = .next s := by simp [step, h]

/-- A step takes the command at the front. -/
theorem step_front (c : Instr) (rest : List Instr) (h : s.pending = c :: rest) :
    step s = exec c { s with pending := rest } := by simp [step, h]

/-- What one taking of work is: a task, the oldest deferred entry, a pending entry, or nothing (R22). -/
theorem takeWork_cases :
    (∃ t, s.engine.nextTask = some t ∧ takeWork s = takeTask s t) ∨
    (∃ w rest, s.engine.nextTask = none ∧ s.pageBusy = none ∧ s.engine.deferred = w :: rest ∧
      takeWork s = serveWork { s with engine := { s.engine with deferred := rest } } w) ∨
    (s.engine.nextTask = none ∧ (s.pageBusy ≠ none ∨ s.engine.deferred = []) ∧ takeWork s = takePending s) := by
  unfold takeWork
  cases ht : s.engine.nextTask with
  | some t => exact .inl ⟨t, rfl, rfl⟩
  | none =>
    cases hb : s.pageBusy with
    | some b => exact .inr (.inr ⟨rfl, .inl (by simp), rfl⟩)
    | none =>
      cases hd : s.engine.deferred with
      | nil => exact .inr (.inr ⟨rfl, .inr rfl, rfl⟩)
      | cons w rest => exact .inr (.inl ⟨w, rest, rfl, rfl, rfl, rfl⟩)

/-- What the taking of a task is: deferred, left in place, or served (R24). -/
theorem takeTask_cases (t : Task) :
    (s.meetsBusy (pageOfSerial t.pass.serial) = true ∧ s.engine.hasRoom = true ∧
      takeTask s t = { s with engine := s.engine.dropTask.defer (.task t) }) ∨
    (s.meetsBusy (pageOfSerial t.pass.serial) = true ∧ s.engine.hasRoom = false ∧
      takeTask s t = { s with engine := { s.engine with tasks := leaveTask s.engine.tasks } }) ∨
    (s.meetsBusy (pageOfSerial t.pass.serial) = false ∧
      takeTask s t = serveTask { s with engine := s.engine.dropTask } t) := by
  unfold takeTask
  cases hb : s.meetsBusy (pageOfSerial t.pass.serial) <;> cases hr : s.engine.hasRoom <;> simp [hr]

/-- What the taking of a request is: refused for its form, deferred, left in place, or served (R19, R24). -/
theorem takeRequest_cases (r : Request) :
    (engineOp r.kind r.body = none ∧ takeRequest s r = refuseForm { s with engine := s.engine.takeRequest r.port } r) ∨
    ∃ op, engineOp r.kind r.body = some op ∧
      ((s.meetsBusy op.needs = true ∧ s.engine.hasRoom = true ∧
          takeRequest s r = { s with engine := (s.engine.takeRequest r.port).defer (.request r) }) ∨
        (s.meetsBusy op.needs = true ∧ s.engine.hasRoom = false ∧
          takeRequest s r = { s with engine := s.engine.leaveRequest r.port }) ∨
        (s.meetsBusy op.needs = false ∧
          takeRequest s r = serveRequest { s with engine := s.engine.takeRequest r.port } r.port op)) := by
  unfold takeRequest
  cases ho : engineOp r.kind r.body with
  | none => exact .inl ⟨rfl, by simp⟩
  | some op =>
    refine .inr ⟨op, rfl, ?_⟩
    cases hb : s.meetsBusy op.needs <;> cases hr : s.engine.hasRoom <;> simp [hb, hr]

/-- What a closing of the open interval can be: a record and a new interval, or the interval held (R88, R91). -/
theorem closeInterval_cases (stop : Nat) (flag : IntervalFlags) (newStart heldAt : Nat) :
    (s.count.log.length < Config.logMax ∧
      (closeInterval s stop flag newStart heldAt).count =
        { s.count with
          interval := Interval.fresh newStart
            (nextBoundaryFrom s.profile.intervalMinutes s.profile.rollover newStart)
          log := s.count.log ++ [s.count.interval.close s.count.nextSeq s.profile.rollover stop flag]
          nextSeq := s.count.nextSeq + 1 }) ∨
    (Config.logMax ≤ s.count.log.length ∧
      (closeInterval s stop flag newStart heldAt).count =
        { s.count with
          interval :=
            { s.count.interval with
              gathered := (s.count.interval.gathered.union flag).union IntervalFlags.ofHeld
              nextBoundary := boundaryAfter s.profile.intervalMinutes s.profile.rollover heldAt } }) := by
  by_cases h : s.count.log.length < Config.logMax
  · exact .inl ⟨h, by simp [closeInterval, h]⟩
  · exact .inr ⟨Nat.le_of_not_lt h, by simp [closeInterval, h]⟩

/-- The passed counts of two runs of records add. -/
theorem passedIn_append (k : LaneId) (a b : List LogRecord) : passedIn k (a ++ b) = passedIn k a + passedIn k b := by
  induction a with
  | nil => simp [passedIn]
  | cons r rest ih =>
    simp only [passedIn, List.cons_append, List.foldr_cons] at ih ⊢
    rw [ih]
    exact (BitVec.add_assoc _ _ _).symm

end Sys2Proof.Machine
end

