-- ==== Sys2Proof/Laws/Store.lean ====
section
/-! SUPPORT. Every operation of the pass store keeps its records in strictly ascending serial order, the one form in which
the store is kept (R10). -/

namespace Sys2Proof.Machine

/-- The form in the terms of `List.Pairwise`. -/
theorem ascending_iff (store : List PassRecord) :
    ascending store = true ↔ store.Pairwise (fun a b => a.ent.serial < b.ent.serial) := by
  induction store with
  | nil => simp [ascending]
  | cons a rest ih =>
    cases rest with
    | nil => simp [ascending]
    | cons b rest =>
      rw [List.pairwise_cons, ← ih]
      simp only [ascending, Bool.and_eq_true, decide_eq_true_eq]
      constructor
      · rintro ⟨h, hs⟩
        refine ⟨?_, hs⟩
        intro x hx
        rcases List.mem_cons.mp hx with rfl | hx
        · exact h
        · exact Nat.lt_trans h ((List.pairwise_cons.mp (ih.mp hs)).1 x hx)
      · rintro ⟨h, hs⟩
        exact ⟨h b (by simp), hs⟩

/-- A change of records that keeps their serials keeps the form. -/
theorem ascending_map {store : List PassRecord} (f : PassRecord → PassRecord)
    (hf : ∀ r, (f r).ent.serial = r.ent.serial) (h : ascending store = true) : ascending (store.map f) = true := by
  rw [ascending_iff] at *
  rw [List.pairwise_map]
  exact h.imp (by intro a b hab; simpa [hf] using hab)

/-- Changing one record keeps the form. -/
theorem ascending_updateRecord {store : List PassRecord} (serial : Nat) (f : PassRecord → PassRecord)
    (hf : ∀ r, (f r).ent.serial = r.ent.serial) (h : ascending store = true) :
    ascending (updateRecord store serial f) = true := by
  refine ascending_map _ (fun r => ?_) h
  split
  · exact hf r
  · rfl

/-- The start-up scan keeps the form. -/
theorem ascending_scanStore {store : List PassRecord} (h : ascending store = true) : ascending (scanStore store) = true :=
  ascending_map _ (fun _ => rfl) h

/-- The serials of a store with a record put in are those of the store and the record's. -/
theorem mem_insertRecord_serial {r x : PassRecord} {store : List PassRecord} (h : x ∈ insertRecord r store) :
    x = r ∨ x ∈ store := by
  induction store with
  | nil => simpa [insertRecord] using h
  | cons q rest ih =>
    simp only [insertRecord] at h
    split at h
    · simpa using h
    · split at h
      · simp only [List.mem_cons] at h ⊢
        tauto
      · rcases List.mem_cons.mp h with rfl | h
        · simp
        · rcases ih h with rfl | h <;> simp [*]

/-- Putting a record in keeps the form. -/
theorem ascending_insertRecord {store : List PassRecord} (r : PassRecord) (h : ascending store = true) :
    ascending (insertRecord r store) = true := by
  rw [ascending_iff] at *
  induction store with
  | nil => simp [insertRecord]
  | cons q rest ih =>
    have hq := List.pairwise_cons.mp h
    simp only [insertRecord]
    split
    · rename_i hlt
      refine List.pairwise_cons.mpr ⟨?_, h⟩
      intro x hx
      rcases List.mem_cons.mp hx with rfl | hx
      · exact hlt
      · exact Nat.lt_trans hlt (hq.1 x hx)
    · split
      · rename_i heq
        exact List.pairwise_cons.mpr ⟨fun x hx => heq ▸ hq.1 x hx, hq.2⟩
      · rename_i hlt hne
        refine List.pairwise_cons.mpr ⟨?_, ih hq.2⟩
        intro x hx
        rcases mem_insertRecord_serial hx with rfl | hx
        · omega
        · exact hq.1 x hx

/-- Replacing a page keeps the form, whatever records the page takes (R13). -/
theorem ascending_replacePage {store : List PassRecord} (page : Nat) (records : List PassRecord)
    (h : ascending store = true) : ascending (replacePage store page records) = true := by
  have hf : ascending (store.filter (fun r => homePage r.ent.serial != page)) = true := by
    rw [ascending_iff] at *
    exact h.filter _
  unfold replacePage
  induction records with
  | nil => simpa using hf
  | cons r rest ih => exact ascending_insertRecord r ih

/-- What a record looked for is: one of the store, of that serial, which is not 0 (R11). -/
theorem findRecord_some {store : List PassRecord} {serial : Nat} {r : PassRecord}
    (h : findRecord store serial = some r) : serial ≠ 0 ∧ r ∈ store ∧ r.ent.serial = serial := by
  unfold findRecord at h
  split at h
  · exact absurd h (by simp)
  · rename_i hne
    exact ⟨hne, List.mem_of_find?_eq_some h, by simpa using List.find?_some h⟩

/-- In a store of the kept form a record is found by its serial. -/
theorem findRecord_of_mem {store : List PassRecord} {r : PassRecord} (h : ascending store = true) (hr : r ∈ store)
    (h0 : r.ent.serial ≠ 0) : findRecord store r.ent.serial = some r := by
  rw [ascending_iff] at h
  simp only [findRecord, h0, if_false]
  induction store with
  | nil => simp at hr
  | cons q rest ih =>
    have hq := List.pairwise_cons.mp h
    rcases List.mem_cons.mp hr with rfl | hr
    · simp
    · have : q.ent.serial ≠ r.ent.serial := Nat.ne_of_lt (hq.1 r hr)
      rw [List.find?_cons_of_neg (by simpa using this)]
      exact ih hq.2 hr

end Sys2Proof.Machine
end

