-- ==== Sys2Proof/Tests/Slice0.lean ====
section
/-! SUPPORT. Tests. Expected values come from the worked examples and tables of spec/, named at each test, or from a hand
computation by its rules; CRCs were computed apart from the model. The last part shows, for each statement with hypotheses,
states and operands that meet them. -/

namespace Sys2Proof.Tests

set_option Elab.async false

open Sys2Proof.Machine

/-! ## States the tests start from -/

/-- The state after a command. -/
def after (c : Instr) (s : State) : State :=
  match exec c s with
  | .next t => t
  | .fault _ => s
  | .refused _ => s

/-- Station time at 04:04 of calendar day 150, LOCKED 600,000 ms ago. -/
def clock : Timebase :=
  { State.reset.timebase with
    time := 12974640000
    status := .locked
    refMark := some 12974040000
    refAge := some 600000
    currentDay := 150
    lastKnown := 12974600000
    lastKnownDue := 240000 }

/-- A READY device at that time, every lane SHUT, every port free. -/
def ready : State := { State.reset with phase := .ready, elapsed := 200000, timebase := clock, postsInFlight := [] }

/-- A pass with 4 ride-days within days 148 to 153, on page 83. -/
def passA : PassRecord :=
  { ent :=
      { serial := 2131, classNo := 12, firstDay := 148, window := 6, rideDays := 4, paid := 39000, blocked := false
        zones := none, hours := none }
    usage := {} }

/-- The same pass with day 150 PROVISIONAL under one holder. -/
def passRidden : PassRecord :=
  { passA with
    usage :=
      { used := [{ day := 150, state := .provisional 1 }], stamp := some { time := 12974640000, lift := 0 }
        rides := some { day := 150, count := 1 } } }

/-- The admission that did so. -/
def admission : Admission :=
  { serial := 2131, stampSet := { time := 12974640000, lift := 0 }, heldDay := some 150, priorStamp := none
    priorRides := none }

/-- A PASS entry for it: waiting, or released with the lengths of the default profile. -/
def entryOf (release : Option Release) : Entry :=
  { kind := .pass admission, admissionTime := 12974640000, admissionMark := 200000, admissionTimeout := 8000
    release := release }

/-- A FREE entry that waits. -/
def freeEntry : Entry :=
  { kind := .free, admissionTime := 12974640000, admissionMark := 200000, admissionTimeout := 8000, release := none }

/-- The release of an entry at the elapsed time of `ready`. -/
def release : Release := { mark := 200000, timeout := 8000, pulse := 1500 }

/-- A lane in a state with a list. -/
def laneIn (st : LaneState) (entries : List Entry) : Lane :=
  { Lane.reset false false with
    current := st, requested := st, inflight := entries
    output := st == .observe || (match entries with
      | e :: _ => e.release.isSome
      | [] => false) }

/-- The device with lane 2 as given. -/
def withLane (l : Lane) : State := ready.setLane 2 l

/-- The device with a record in its store. -/
def withRecord (r : PassRecord) : State := { ready with store := [r] }

/-- A staged entry of the pass. -/
def stagedA (mark : StagedMark) : Staged := { ent := passA.ent, mark := mark }

/-- A buffer for page 83 that SP0 owns. -/
def buffer (entries : List Staged) : Buffer := { page := 83, owner := 0, entries := entries }

/-- The device with the buffer OPEN, its timer started at the elapsed time of `ready`. -/
def opened (store : List PassRecord) (entries : List Staged) : State :=
  { ready with store := store, staging := .opened (buffer entries) 200000 }

/-- The device with the page being written. -/
def committing (store : List PassRecord) (entries : List Staged) : State :=
  { ready with
    store := store
    staging := .committing (buffer entries) { image := buildPage store entries, disowned := false }
    stationPorts := ready.stationPorts.set 0 { PortState.reset with positions := [.reserved 0x34 7] } }

/-- A request pending at LP4. -/
def admitRequest : Request := { port := .lane 4, kind := .admitPass, tag := 0x31, body := [0, 0, 8, 0x53], left := false }

/-- The device with that request in the pending set. -/
def pendingAdmit : State :=
  { ready.setPort (.lane 4) { PortState.reset with positions := [.reserved 0x01 0x31] } with
    engine := { ready.engine with pendingSet := [admitRequest] } }

/-- A task for the pass. -/
def taskOf (kind : TaskKind) : Task := { kind := kind, lane := 2, pass := admission, left := false }

/-- Class 12 of the worked refunds (chapter 6). -/
def class12 : TariffClass :=
  { present := true
    prices := Vector.ofFn (fun i : Fin 14 => [8200, 15600, 22500, 28800, 34500, 39600].getD i.val 0)
    feeMin := 1000, feePermille := 50, step := 50, capPermille := 800, lapsed := false }

/-- Pass 88,411 of the worked refunds. -/
def pass88411 (used : List Nat) (refundedDays refundedTotal : Nat) : PassRecord :=
  { ent :=
      { serial := 88411, classNo := 12, firstDay := 41, window := 6, rideDays := 6, paid := 39000, blocked := false
        zones := none, hours := none }
    usage :=
      { used := used.map (fun d => { day := d, state := .confirmed })
        refundedDays := refundedDays, refundedTotal := refundedTotal } }

/-- The device of the worked refunds: day 43, the tariff locked, sequence number 3,310 next. -/
def refunding : State :=
  { ready with
    store := [pass88411 [41, 42] 0 0]
    refund := { ready.refund with tariff := ready.refund.tariff.set 12 class12, locked := true, nextSeq := 3310 }
    timebase := { clock with time := 43 * 86400000 + 14401000, currentDay := 43 } }

/-! ## Well-formed terms: an ill-formed one for each check -/

/-- A body of 241 bytes, one more than a frame carries. -/
def longBody : List Byte := List.replicate 241 2

/-- Every request row with that body is refused. -/
theorem test_long_bodies_ill_formed :
    ([Instr.admitPass, .laneStatus, fun p tag body => .portReset p tag ⟨body, .serviceFirst⟩, .laneState, .laneAck, .releaseGo,
      .releaseDeny, .releaseFree, .passRead, .block, .unblock, .pageOpen, .recordPut, .recordDrop, .stagingRead, .pageCommit,
      .pageAbandon, .tariffPut, .tariffRead, .tariffLock, .refundQuote, .refundCommit, .journalRead, .journalRelease, .logRead, .logRelease, .timeReference,
      .readTime, .configure, .readProfile, .subscribe, .fetchNotices, .stationRestart].all
        (fun row => !(row (.station 0) 0 longBody).wellFormed)) = true := by decide +kernel

/-- A RELEASE row with another action's byte is refused. -/
theorem test_release_rows_ill_formed :
    (Instr.releaseGo (.station 0) 0 [2, 1]).wellFormed = false ∧ (Instr.releaseDeny (.station 0) 0 [2, 0]).wellFormed = false ∧
      (Instr.releaseFree (.station 0) 0 [2, 3]).wellFormed = false := by decide +kernel

/-- An UNKNOWN_KIND with a listed code is refused. -/
theorem test_unknown_kind_ill_formed : (Instr.unknownKind (.lane 0) 0x03 0).wellFormed = false := by decide +kernel

/-! ## Frames written out by the table of section 9.8 -/

/-- The CRC of the digits 1 to 9 under 1021h and FFFFh. -/
theorem test_crc_of_digits : crc16 [0x31, 0x32, 0x33, 0x34, 0x35, 0x36, 0x37, 0x38, 0x39] = 0x29B1 := by decide +kernel

theorem test_frame_admit :
    commandOfPeriod (.lane 4) [0, 0, 0xA5, 0x04, 0x01, 0x31, 0x00, 0x00, 0x08, 0x53, 0x30, 0x28, 0] =
      some (.admitPass (.lane 4) 0x31 [0, 0, 8, 0x53]) := by decide +kernel
theorem test_frame_port_reset :
    commandOfPeriod (.station 1) [0xA5, 0x00, 0x03, 0x00, 0x99, 0xCF] = some (.portReset (.station 1) 0 ⟨[], .withdrawalFirst⟩) := by
  decide +kernel
theorem test_frame_lane_state :
    commandOfPeriod (.station 0) [0xA5, 0x02, 0x10, 0x01, 0x02, 0x02, 0x3F, 0x38] =
      some (.laneState (.station 0) 1 [2, 2]) := by decide +kernel
theorem test_frame_releases :
    commandOfPeriod (.station 0) [0xA5, 0x02, 0x12, 0x03, 0x00, 0x00, 0xFA, 0x10] = some (.releaseGo (.station 0) 3 [0, 0]) ∧
    commandOfPeriod (.station 0) [0xA5, 0x02, 0x12, 0x03, 0x00, 0x01, 0xEA, 0x31] = some (.releaseDeny (.station 0) 3 [0, 1]) ∧
    commandOfPeriod (.station 0) [0xA5, 0x02, 0x12, 0x09, 0x05, 0x02, 0xE2, 0x66] = some (.releaseFree (.station 0) 9 [5, 2]) := by
  decide +kernel
theorem test_frame_pass_read :
    commandOfPeriod (.station 0) [0xA5, 0x04, 0x20, 0x04, 0x00, 0x00, 0x08, 0x53, 0x6F, 0x39] =
      some (.passRead (.station 0) 4 [0, 0, 8, 0x53]) := by decide +kernel
theorem test_frame_page_open :
    commandOfPeriod (.station 0) [0xA5, 0x02, 0x30, 0x06, 0x02, 0xBC, 0xCB, 0xF3] =
      some (.pageOpen (.station 0) 6 [2, 0xBC]) := by decide +kernel
theorem test_frame_refund_commit :
    commandOfPeriod (.station 0) [0xA5, 0x08, 0x49, 0x09, 0x00, 0x01, 0x59, 0x5B, 0x04, 0x00, 0x56, 0xB8, 0xD2, 0xA8] =
      some (.refundCommit (.station 0) 9 [0, 1, 0x59, 0x5B, 4, 0, 0x56, 0xB8]) := by decide +kernel
theorem test_frame_log_release :
    commandOfPeriod (.station 0) [0xA5, 0x04, 0x51, 0x0B, 0x00, 0x00, 0x00, 0x00, 0xE9, 0xC3] =
      some (.logRelease (.station 0) 0x0B [0, 0, 0, 0]) := by decide +kernel
theorem test_frame_time_reference :
    commandOfPeriod (.station 0) [0xA5, 0x06, 0x58, 0x0C, 0x03, 0x05, 0x59, 0x4B, 0x80, 0x00, 0x58, 0x10] =
      some (.timeReference (.station 0) 0x0C [0x03, 0x05, 0x59, 0x4B, 0x80, 0x00]) := by decide +kernel
theorem test_frame_configure :
    commandOfPeriod (.station 0) [0xA5, 0x04, 0x60, 0x0E, 0x06, 0x00, 0x17, 0x70, 0x63, 0x52] =
      some (.configure (.station 0) 0x0E [6, 0, 0x17, 0x70]) := by decide +kernel
theorem test_frame_fetch_and_restart :
    commandOfPeriod (.station 1) [0xA5, 0x00, 0x69, 0x11, 0x7F, 0x3E] = some (.fetchNotices (.station 1) 0x11 []) ∧
    commandOfPeriod (.station 1) [0xA5, 0x00, 0x70, 0x12, 0xF6, 0xB6] = some (.stationRestart (.station 1) 0x12 []) := by decide +kernel
theorem test_frame_unknown_kind :
    commandOfPeriod (.lane 0) [0xA5, 0x00, 0x4F, 0x13, 0xF3, 0x3C] = some (.unknownKind (.lane 0) 0x4F 0x13) := by decide +kernel
theorem test_frame_errors :
    commandOfPeriod (.lane 0) [0, 0x5A] = some (.frameError (.lane 0) .badStart) ∧
    commandOfPeriod (.lane 0) [0xA5, 241] = some (.frameError (.lane 0) .oversize) ∧
    commandOfPeriod (.lane 0) [0xA5, 0x00, 0x03, 0x00, 0x99] = some (.frameError (.lane 0) .truncated) ∧
    commandOfPeriod (.lane 0) [0xA5, 0x00, 0x03, 0x00, 0x99, 0xCE] = some (.frameError (.lane 0) .badCrc) := by decide +kernel

/-! ## One command each -/

/-- The reader that runs ahead (chapter 9): a second ADMIT reserves BUSY, a bad frame is lost. -/
theorem test_port_busy_then_lost :
    ((after (.admitPass (.lane 4) 0x32 [0, 0, 8, 0x53]) pendingAdmit).port (.lane 4)).positions =
      [.reserved 0x01 0x31, .busy 0x01 0x32] ∧
    after (.frameError (.lane 4) .badCrc) (after (.admitPass (.lane 4) 0x32 [0, 0, 8, 0x53]) pendingAdmit) =
      after (.admitPass (.lane 4) 0x32 [0, 0, 8, 0x53]) pendingAdmit := by decide +kernel

/-- The engine admits the pass at LP4 in SELF: day 150 PROVISIONAL under one holder, the head released, 3 days left. -/
theorem test_admit_served :
    let s := (withLane (laneIn .shut [])).setLane 4 (laneIn .self [])
    let t := after .engineTakeWork { s with
      store := [passA], engine := pendingAdmit.engine, lanePorts := pendingAdmit.lanePorts }
    t.store = [passRidden] ∧ (t.lane 4).inflight = [entryOf (some release)] ∧ (t.lane 4).output = true ∧
      (t.port (.lane 4)).positions =
        [.ready { kind := 1, tag := 0x31, code := .admitted, body := [0, 0, 8, 0x53, 1, 1, 1, 3, 0, 0x99, 12] }] := by
  decide +kernel

/-- A TARIFF LOCK with a body is BAD_ARGUMENT, and carries the lock that stands: set in the worked refunds, clear at first (R103). -/
theorem test_tariff_lock_with_body :
    let answer := fun (s : State) =>
      let r : Request := { port := .station 1, kind := .tariffLock, tag := 2, body := [1], left := false }
      let t := after .engineTakeWork
        { s.setPort (.station 1) { PortState.reset with positions := [.reserved 0x42 2] } with
          engine := { s.engine with pendingSet := [r] } }
      ((t.port (.station 1)).positions, t.refund.locked)
    answer refunding = ([.ready { kind := 0x42, tag := 2, code := .badArgument, body := [1] }], true) ∧
      answer ready = ([.ready { kind := 0x42, tag := 2, code := .badArgument, body := [0] }], false) := by decide +kernel

/-- A taking that serves a VOID removes the day it held. -/
theorem test_void_served :
    (after .engineTakeWork { withRecord passRidden with engine := { ready.engine with tasks := [taskOf .void] } }).store =
      [passA] := by decide +kernel

/-- The quote of the pass refunded whole (chapter 6): k 4, j 4, gross 23,400, fee 1,170, cap left 31,200, amount 22,200. -/
theorem test_quote_refunded_whole :
    (serveQuote refunding 88411 0).body =
      [0x00, 0x01, 0x59, 0x5B, 4, 4] ++ [0x00, 0x5B, 0x68] ++ [0x00, 0x04, 0x92] ++ [0x00, 0x79, 0xE0] ++ [0x00, 0x56, 0xB8] ++
        [0, 0, 0, 0, 0, 0, 0, 0, 4] := by decide +kernel

/-- Its commit: r 4, RT 22,200, nothing left, sequence 3,310 in the journal, 3,311 next. -/
theorem test_commit_refunded_whole :
    let r := serveCommit refunding (.station 0) 88411 4 22200
    r.code = .ok ∧ r.state.store = [pass88411 [41, 42] 4 22200] ∧ r.state.refund.nextSeq = 3311 ∧
      r.state.refund.journal.map (fun j => (j.seq, j.serial, j.classNo, j.days, j.amount, j.day)) =
        [(3310, 88411, 12, 4, 22200, 43)] ∧
      r.state.countsInFlight = [.refund 22200] ∧ r.state.postsInFlight = [.refundCommitted 3310 88411 22200] := by
  decide +kernel

/-- The second refund of the pass refunded in two steps: k 1, gross 7,300, fee 1,000, cap left 22,000, amount 6,300. -/
theorem test_second_refund_figures :
    refundableDays class12 (pass88411 [41, 42, 43] 2 9200) 44 = 1 ∧
      figuresFor class12 (pass88411 [41, 42, 43] 2 9200) 1 =
        { gross := 7300, fee := 1000, capLeft := 22000, amount := 6300 } := by decide +kernel

/-- A BLOCK of the pass while its page is open writes both copies. -/
theorem test_block_both_copies :
    (serveFlag (opened [passA] [stagedA .copied]) 2131 true).body = [0, 0, 8, 0x53, 1, 2] := by decide +kernel

/-- A page with one record opens with one COPIED entry. -/
theorem test_page_open :
    (servePageOpen (withRecord passA) 0 83).state.staging = .opened (buffer [stagedA .copied]) 200000 := by decide +kernel

/-- A commit that drops a record with a PROVISIONAL day is CONFLICT with reason 3. -/
theorem test_commit_provisional :
    recordConflict [] passRidden = some .provisional ∧ conflictBytes 2131 .provisional = [0, 0, 8, 0x53, 3, 0, 0, 0, 0, 0, 0, 0] := by
  decide

/-- The write's success drops what has no staged entry. -/
theorem test_write_success : (after (.writeCompletion .success) (committing [passA] [])).store = [] := by decide +kernel

/-- The last of 120,000 ms ends the idle timer, one less does not. -/
theorem test_idle_timer :
    (after .idleTimerEnd { opened [] [] with elapsed := 320000 }).staging = .empty ∧
      after .idleTimerEnd { opened [] [] with elapsed := 319999 } = { opened [] [] with elapsed := 319999 } := by
  decide +kernel

/-- LANE STATE to SELF in ATTENDED releases the WAITING head. -/
theorem test_lane_state_self :
    (after (.laneState (.station 0) 1 [2, 2]) (withLane (laneIn .attended [entryOf none]))).lane 2 =
      laneIn .self [entryOf (some release)] := by decide +kernel

/-- LANE STATE with a fifth target is BAD_ARGUMENT and reports lane 2: SELF, requested SELF, no error; for lane 6 there is nothing
to report (R57). -/
theorem test_lane_state_bad_target :
    let s := withLane (laneIn .self [])
    let answer := fun (body : List Byte) => ((after (.laneState (.station 0) 1 body) s).port (.station 0)).positions
    answer [2, 4] = [.ready { kind := 0x10, tag := 1, code := .badArgument, body := [2, 2, 2, 0, 0] }] ∧
      answer [6, 1] = [.ready { kind := 0x10, tag := 1, code := .badArgument, body := [0, 0, 0, 0, 0] }] := by decide +kernel

/-- LANE ACK after a sensor failure: score 0, SENSOR_HEALTH SOUND, LANE_STATE with first cause NONE (chapter 4). -/
theorem test_lane_ack :
    (after (.laneAck (.station 0) 1 [2]) (withLane { laneIn .attended [] with
      requested := .self, errorFlag := true, firstCause := some .sensorFailed, causeSensor := true, score := 195 })).postsInFlight =
      [.sensorHealth 2 .sound 0, .laneState 2 .attended .self none false false false] := by decide +kernel

/-- RELEASE FREE in SELF releases its entry at once as head. -/
theorem test_release_free :
    (after (.releaseFree (.station 0) 1 [2, 2]) (withLane (laneIn .self []))).lane 2 =
      laneIn .self [{ freeEntry with release := some release }] := by decide +kernel

/-- RELEASE DENY makes the WAITING head balk. -/
theorem test_release_deny :
    (after (.releaseDeny (.station 0) 1 [2, 1]) (withLane (laneIn .attended [entryOf none]))).countsInFlight =
      [.balk 2 false] := by decide +kernel

/-- RELEASE GO asserts the output. -/
theorem test_release_go :
    ((after (.releaseGo (.station 0) 1 [2, 0]) (withLane (laneIn .attended [entryOf none]))).lane 2).output = true := by
  decide +kernel

/-- The pass timeout of 8 s ends at 8,000 ms from the release: a balk and a VOID. -/
theorem test_pass_timeout :
    (after (.passTimeout 2) { withLane (laneIn .self [entryOf (some release)]) with elapsed := 208000 }).engine.tasks =
      [taskOf .void] := by decide +kernel

/-- In TIMED mode the pulse of 1,500 ms ends 1,500 ms after the release. -/
theorem test_release_pulse :
    let s : State :=
      { withLane (laneIn .self [entryOf (some release)]) with
        profile := { Profile.default with modeOf := Vector.replicate 6 .timed } }
    ((after (.releasePulseEnd 2) { s with elapsed := 201499 }).lane 2).output = true ∧
      ((after (.releasePulseEnd 2) { s with elapsed := 201500 }).lane 2).output = false := by decide +kernel

/-- 900 ms after A, B completes the head: a passed event and a CONFIRM (the busy minute of chapter 4). -/
theorem test_forward_rotation :
    let s := withLane { laneIn .self [entryOf (some release)] with sequencer := .aSeen 199100 }
    let t := after (.sensorRisingEdge 2 .b) s
    t.countsInFlight = [.passed 2 false] ∧ t.engine.tasks = [taskOf .confirm] ∧ (t.lane 2).inflight = [] := by
  decide +kernel

/-- A rising edge of A in A_SEEN at score 188 takes the lane to FAILED and to ATTENDED, requested SELF (chapter 4). -/
theorem test_lane_failing :
    let t := after (.sensorRisingEdge 2 .a) (withLane { laneIn .self [] with sequencer := .aSeen 199900, score := 188 })
    t.postsInFlight =
      [.sensorHealth 2 .failed 196, .laneState 2 .attended .self (some .sensorFailed) true true false] := by decide +kernel

/-- A falling edge ends a stuck episode. -/
theorem test_falling_edge :
    let s := withLane (Lane.beginTaking 190000 (Lane.reset true false))
    ((after (.sensorFallingEdge 2 .a) s).lane 2).sensorA =
      { level := false, lastRise := 0, lastFall := 12974640000, stuck := none } := by decide +kernel

/-- The window ends 3,000 ms after its edge, counting nothing. -/
theorem test_window_end :
    after (.rotationWindowEnd 2) (withLane { laneIn .self [] with sequencer := .aSeen 197000 }) = withLane (laneIn .self []) := by
  decide +kernel

/-- A sensor high for 20,000 ms adds 32, once. -/
theorem test_stuck_limit :
    let s := withLane (Lane.beginTaking 180000 (Lane.reset true false))
    ((after (.stuckLimit 2 .a) s).lane 2).score = 32 ∧
      ((after (.stuckLimit 2 .a) (after (.stuckLimit 2 .a) s)).lane 2).score = 32 := by decide +kernel

/-- The first reference of the worked day (chapter 8): set to 12,974,640,000, day 150, interval from 04:00. -/
theorem test_first_reference :
    let b := Timebase.reset 0 149 12974310000
    let t := after (.timeReference (.station 0) 3 [0x03, 0x05, 0x59, 0x4B, 0x80, 0x00])
      { ready with timebase := { b with time := 12974395000 } }
    t.timebase.time = 12974640000 ∧ t.timebase.currentDay = 150 ∧ t.timebase.trim = 0 ∧
      t.count.interval.start = 12974400000 := by decide +kernel

/-- The second reference: correction 120, trim +16. -/
theorem test_second_reference :
    let t := after (.timeReference (.station 0) 3 (beBytes 5 12978240120 ++ [0]))
      { ready with timebase := { clock with time := 12978240000, refMark := some 12974640000, refAge := some 3600000 } }
    t.timebase.correction = 120 ∧ t.timebase.trim = 16 ∧ t.timebase.time = 12978240000 := by decide +kernel

/-- At 04:04 and 03:54 of calendar day 150 the days are 150 and 149, the minutes 244 and 234 (section 8.6). -/
theorem test_calendar :
    operatingDay 240 12974640000 = 150 ∧ minuteOfDay 12974640000 = 244 ∧ operatingDay 240 12974040000 = 149 ∧
      minuteOfDay 12974040000 = 234 := by decide

/-- The boundary at or before 12:25:04 and the one after it, in quarter hours. -/
theorem test_boundaries :
    boundaryAtOrBefore 15 240 13004704000 = 13004100000 ∧ boundaryAfter 15 240 13004704000 = 13005000000 := by decide

/-- One millisecond with trim -250 leaves station time and a fraction of 999,750. -/
theorem test_running :
    let t := after .runningOfStationTime { ready with timebase := { clock with trim := -250 } }
    t.timebase.time = 12974640000 ∧ t.timebase.fraction = 999750 ∧ t.elapsed = 200001 := by decide +kernel

/-- Slewing forward takes a millisecond at once; backward it withholds one. -/
theorem test_slew :
    (after .slewTick { ready with timebase := { clock with correction := 5 } }).timebase.time = 12974640001 ∧
      (after .slewTick { ready with timebase := { clock with correction := -5 } }).timebase.withheld = 1 := by decide +kernel

/-- A reference age of 21,600,000 ms makes LOCKED FREE; the last-known time and the stored day are written when due. -/
theorem test_timebase_events :
    (after .referenceAgeExpiry { ready with timebase := { clock with refAge := some 21600000 } }).timebase.status = .free ∧
      (after .lastKnownWrite { ready with elapsed := 240000 }).timebase.lastKnown = 12974640000 ∧
      (after .dayChange { ready with timebase := { clock with currentDay := 149 } }).timebase.currentDay = 150 := by
  decide +kernel

/-- A passed event counts in the interval and the lifetime total; at a boundary the interval becomes a record. -/
theorem test_counting :
    let t := after (.countEvent (.passed 2 true)) { ready with countsInFlight := [.passed 2 true] }
    t.count.lifetime[2] = 1 ∧ t.count.interval.lanes[2].passed = 1 ∧ t.count.interval.lanes[2].estimated = true ∧
      t.countsInFlight = [] ∧
      (after .boundaryEvent { t with timebase := { clock with time := 900000 } }).count.interval.start = 900000 := by
  decide +kernel

/-- The completion of a FREE entry counts its passed and its free rider together, and once; an event that is not in flight counts
nothing (R85, R86). -/
theorem test_free_rider_counted :
    let s : State := { ready with countsInFlight := [.passedFree 2 false] }
    let t := after (.countEvent (.passedFree 2 false)) s
    t.count.interval.lanes[2].passed = 1 ∧ t.count.interval.lanes[2].free = 1 ∧ t.count.lifetime[2] = 1 ∧
      after (.countEvent (.passedFree 2 false)) t = t := by decide +kernel

/-- A LOG RELEASE up to record 0 releases the one record of the reset state. -/
theorem test_log_release : (after (.logRelease (.station 0) 1 [0, 0, 0, 0]) ready).count.log = [] := by decide +kernel

/-- The console's queues (chapter 10): a second TAILGATE coalesces; SUBSCRIBE 0008h keeps INTERVAL_CLOSED alone. -/
theorem test_notices :
    let s := after (.noticePost (.tailgate 2 7)) (after (.noticePost (.intervalClosed 1200 {}))
      (after (.noticePost (.tailgate 2 5)) { ready with postsInFlight := [.tailgate 2 5, .intervalClosed 1200 {}, .tailgate 2 7] }))
    (s.noticePort 0).queue.map (fun n => (n.detail, n.count)) =
        [(.tailgate 2 7, 2), (.intervalClosed 1200 {}, 1)] ∧
      ((after (.subscribe (.station 0) 1 [0, 8]) s).noticePort 0).queue.map Notice.detail = [.intervalClosed 1200 {}] := by
  decide +kernel

/-- The posts of one event of a lane keep their order: LANE_STATE waits for the SENSOR_HEALTH before it (R168). -/
theorem test_posts_keep_order :
    let d : NoticeDetail := .laneState 2 .attended .self (some .sensorFailed) true true false
    let s : State := { ready with postsInFlight := [.sensorHealth 2 .failed 196, d] }
    after (.noticePost d) s = s ∧
      ((after (.noticePost d) (after (.noticePost (.sensorHealth 2 .failed 196)) s)).noticePort 1).queue.map Notice.detail =
        [.sensorHealth 2 .failed 196, d] := by decide +kernel

/-- The worked CONFIGURE (chapter 11): refused for lane 4 under field 01h while lanes 4 and 5 are open, stored once they are
SHUT. -/
theorem test_configure :
    let body : List Byte := [6, 0, 0x17, 0x70, 8, 0, 25, 2, 3, 1, 1, 0, 4]
    let s := (ready.setLane 4 (laneIn .self [])).setLane 5 (laneIn .self [])
    ((serveConfigure s body).code, (serveConfigure s body).body.take 2) = (Code.lanesOpen, [1, 4]) ∧
      (let f := (serveConfigure ready body).state.profile
      (f.pulse, f.passTimeout, f.intervalMinutes, f.lanesEnabled, f.liftOf[3]) = (5000, 8, 30, 4, 1)) := by decide +kernel

/-- The identity and the size of the profile's report: 4 and 30 bytes (section 11.3). -/
theorem test_read_profile :
    (serveReadProfile ready []).body.take 4 = [0x1B, 0x02, 0x62, 0x01] ∧ (serveReadProfile ready []).body.length = 34 := by
  decide +kernel

/-- READ TIME reports day 150, minute 244 and the age of 600 s. -/
theorem test_read_time :
    (serveReadTime ready []).body =
      [0x03, 0x05, 0x59, 0x4B, 0x80, 0, 150, 0, 244, 1, 0, 0, 0, 0, 1, 2, 0x58, 0, 150] ++ beBytes 5 12974600000 ++ [0, 240] := by
  decide +kernel

/-- A select period after a ready response carries it whole: 19 bytes for an ADMITTED response (chapter 9). -/
theorem test_response_length :
    let s := ready.setPort (.lane 4) { PortState.reset with
      positions := [.ready { kind := 1, tag := 0x31, code := .admitted, body := zeros 11 }] }
    ((after (.selectPeriodStart (.lane 4)) s).dataOut (.lane 4)).length = 19 ∧
      ((after (.responseClockedOut (.lane 4)) (after (.selectPeriodStart (.lane 4)) s)).port (.lane 4)).positions = [] := by
  decide +kernel

/-- The bits of a PORT RESET frame, most significant first, and three more of a byte begun: the command, then the period's end. An
edge without select is ignored (section 9.2). -/
theorem test_bits_in :
    let s := after (.selectPeriodStart (.station 1)) ready
    let bits := ([0xA5, 0x00, 0x03, 0x00, 0x99, 0xCF] : List Byte).flatMap bitsOf ++ [true, true, true]
    ((s.clockBits (.station 1) bits).selectOff (.station 1)).pending =
        [.portReset (.station 1) 0 ⟨[], .withdrawalFirst⟩, .selectPeriodEnd (.station 1)] ∧
      ready.clockEdge (.station 1) true = ready := by decide +kernel

/-- The first byte of a response, 5Ah, goes out as 0101 1010; the 152nd edge ends the 19 bytes of an ADMITTED response. -/
theorem test_bits_out :
    let s := after (.selectPeriodStart (.lane 4)) (ready.setPort (.lane 4) { PortState.reset with
      positions := [.ready { kind := 1, tag := 0x31, code := .admitted, body := zeros 11 }] })
    let n := fun (k : Nat) => s.clockBits (.lane 4) (List.replicate k false)
    ((List.range 8).map (fun k => (n k).dataOutBit (.lane 4))) =
        [some false, some true, some false, some true, some true, some false, some true, some false] ∧
      (n 151).pending = [] ∧ (n 152).pending = [.responseClockedOut (.lane 4)] ∧
      (n 152).dataOutBit (.lane 4) = some false ∧ ready.dataOutBit (.lane 4) = none := by decide +kernel

/-- A device reset in mid-frame: no FRAME_ERROR, no edge taken while STARTING, and a new frame once READY (R163). -/
theorem test_period_spans_reset :
    let frame : List Bool := ([0xA5, 0x00, 0x03, 0x00, 0x99, 0xCF] : List Byte).flatMap bitsOf
    let s := after .deviceReset ((after (.selectPeriodStart (.station 1)) ready).clockBits (.station 1) (frame.take 20))
    let t := after .startupComplete (s.clockBits (.station 1) frame)
    (t.selectOff (.station 1)).pending = [.selectPeriodEnd (.station 1)] ∧
      (t.clockBits (.station 1) (bitsOf 0 ++ frame)).pending = [.portReset (.station 1) 0 ⟨[], .withdrawalFirst⟩] := by
  decide +kernel

/-- PORT RESET of a lane port forces SELF to ATTENDED with LINK_RESET. -/
theorem test_port_reset :
    (after (.portReset (.lane 2) 9 ⟨[], .withdrawalFirst⟩) (withLane (laneIn .self []))).postsInFlight =
      [.laneState 2 .attended .self (some .linkReset) true false true] := by decide +kernel

/-- PORT RESET met by its port's ADMIT in service: the lane is ATTENDED by LINK_RESET before the entry comes, which waits; the
record keeps its changes, the response is dropped (R47). -/
theorem test_port_reset_in_service :
    let s : State := { pendingAdmit.setLane 4 (laneIn .self []) with store := [passA] }
    let t := after (.portReset (.lane 4) 9 ⟨[], .serviceFirst⟩) s
    (t.lane 4).current = .attended ∧ (t.lane 4).inflight = [entryOf none] ∧ t.store = [passRidden] ∧
      (t.port (.lane 4)).positions = [.ready { kind := 3, tag := 9, code := .ok, body := [] }] := by decide +kernel

/-- A device reset keeps the stored day and starts at the last-known time, UNSET. -/
theorem test_device_reset :
    let t := after .deviceReset { ready with store := [passRidden] }
    t.phase = .starting ∧ t.timebase.status = .unset ∧ t.timebase.time = 12974600000 ∧
      t.store.map (fun r => r.usage.used) = [[{ day := 150, state := .confirmed }]] := by decide +kernel

/-- Start-up ends READY. -/
theorem test_startup : (after .startupComplete State.reset).phase = .ready := by decide +kernel

/-- A due restart resets the device when its 1,000 ms have run. -/
theorem test_restart :
    let t := after (.stationRestart (.station 0) 1 []) ready
    t.restartDue = some 201000 ∧ (after .restartDueExpiry { t with elapsed := 201000 }).phase = .starting := by
  decide +kernel

/-- LANE STATUS on a lane port reports that port's lane alone. -/
theorem test_lane_status :
    (serveLaneStatus ready (.lane 2) [2]).code = .ok ∧ (serveLaneStatus ready (.lane 2) [3]).code = .notPermitted := by
  decide +kernel

/-! ## Witnesses: for each statement with hypotheses, states and operands that meet them, each clause at its boundaries -/

/-- A READY device with work in every block: lane 2 in SELF with the pass in flight and its day PROVISIONAL, an ADMIT pending
at LP4, a page open with a NEW entry, a journal record and a notice. -/
def busy : State :=
  { pendingAdmit.setLane 2 (laneIn .self [entryOf (some release)]) with
    store := [passRidden]
    staging := .opened { page := 84, owner := 0, entries := [{ ent := { passA.ent with serial := 2132 }, mark := .new }] } 200000
    refund :=
      { ready.refund with
        locked := true
        journal := [{ seq := 3310, serial := 2131, classNo := 12, days := 1, amount := 50, day := 149, time := 1, port := .station 0 }]
        nextSeq := 3311 }
    notices := ready.notices.set 0
      { queue := [{ detail := .dayRollover 150, first := 1, latest := 1, count := 255 }], mask := 0x03FF } }

/-- The same device with page 83 being written and an ADMIT for it deferred. -/
def writing : State :=
  { busy with
    staging := .committing (buffer [stagedA .copied]) { image := [passRidden], disowned := false }
    engine := { ready.engine with deferred := [.request admitRequest] }
    stationPorts := ready.stationPorts.set 0 { PortState.reset with positions := [.reserved 0x34 7] } }

/-- A queue with one command. -/
def queued (c : Instr) (s : State) : State := { s with pending := [c] }

/-- n log records. -/
def logOf (n : Nat) : List LogRecord := List.replicate n LogRecord.first

/-- The device with so many log records. -/
def logged (n : Nat) (s : State) : State := { s with count := { s.count with log := logOf n } }

/-- A station port whose two positions both stand as given. -/
def stationPort (ps : List Position) (s : State) : State := s.setPort (.station 0) { PortState.reset with positions := ps }

/-- A response that waits. -/
def waiting : Position := .ready { kind := 0x59, tag := 1, code := .ok, body := [] }

theorem witness_StepRunsTheFrontCommand : State.reset.pending = [] := rfl

theorem witness_FramesSpellTheirCommands :
    (Instr.recordPut (.station 0) 1 (List.replicate 240 7)).wellFormed = true ∧
    (∃ frame, encode (.recordPut (.station 0) 1 (List.replicate 240 7)) = some (.station 0, frame)) ∧
    (Instr.unknownKind (.lane 5) 0x4F 2).wellFormed = true ∧
    (∃ frame, encode (.unknownKind (.lane 5) 0x4F 2) = some (.lane 5, frame)) ∧
    (Instr.releaseDeny (.station 1) 255 [5, 1]).wellFormed = true ∧
    ∃ frame, encode (.releaseDeny (.station 1) 255 [5, 1]) = some (.station 1, frame) :=
  ⟨by decide +kernel, ⟨_, rfl⟩, by decide +kernel,
    ⟨requestFrame 0x4F 2 [], rfl⟩, by decide +kernel, requestFrame Kind.release.code 255 [5, 1], rfl⟩

theorem witness_UnsoundFramesAreFrameErrors :
    ((0x01 : Byte) ≠ 0 ∧ (0x01 : Byte) ≠ 0xA5) ∧ 240 < (0xF1 : Byte).toNat ∧
    ((0xF0 : Byte).toNat ≤ 240 ∧ (List.replicate 243 (7 : Byte)).length < (0xF0 : Byte).toNat + 4) ∧
    ((0x00 : Byte).toNat ≤ 240 ∧ ([0x03, 0x00, 0x99] : List Byte).length < (0x00 : Byte).toNat + 4) ∧
    (([] : List Byte).length ≤ 240 ∧ ([0x99, 0xCE] : List Byte).length = 2 ∧
      ([0x99, 0xCE] : List Byte) ≠ crcBytes (BitVec.ofNat 8 ([] : List Byte).length :: 0x03 :: 0x00 :: [])) ∧
    (List.replicate 240 (7 : Byte)).length ≤ 240 ∧
    (ready.port (.station 0)).line = .idle ∧
    (let s := after (.selectPeriodStart (.station 0)) ready
     (s.port (.station 0)).line = .collecting [] [] ∧ (s.port (.station 0)).sending = false) ∧
    (List.replicate 7 true).length < 8 ∧
    (let s := after (.selectPeriodStart (.station 0)) (stationPort [waiting, .reserved 0x34 7] ready)
     let whole := ((s.dataOut (.station 0)).flatMap bitsOf).length
     (s.port (.station 0)).line = .collecting [] [] ∧ (s.port (.station 0)).sending = true ∧ (s.port (.station 0)).sent = 0 ∧
      whole = 64 ∧ 0 < whole ∧ whole ≤ 0 + 8 * ([0, 0, 0xA5, 0x00, 0x03, 0x00, 0x99, 0xCF] : List Byte).length) ∧
    (commandOfPeriod (.station 0) [0, 0, 0xA5, 0x00, 0x03, 0x00, 0x99, 0xCF] =
        some (.portReset (.station 0) 0 ⟨[], .withdrawalFirst⟩) ∧
      commandOfPeriod (.station 0) ([0, 0, 0xA5, 0x00, 0x03, 0x00, 0x99, 0xCF] : List Byte).dropLast =
        some (.frameError (.station 0) .truncated)) ∧
    commandOfPeriod (.station 0) [0xA5, 0x00, 0x03, 0x00, 0x99, 0xCF] = some (.portReset (.station 0) 0 ⟨[], .withdrawalFirst⟩) ∧
    Instr.portReset (.station 0) 0 ⟨[], .withdrawalFirst⟩ ≠ .frameError (.station 0) .truncated ∧
    (let s := after .deviceReset (after (.selectPeriodStart (.station 0)) ready)
     (s.port (.station 0)).line = .spanned [] ∧ s.phase = .starting ∧
      ((after .startupComplete s).port (.station 0)).line = .spanned [] ∧ (after .startupComplete s).phase = .ready) ∧
    ∀ b ∈ ([0x00, 0xA4, 0xA6] : List Byte), b ≠ 0xA5 := by
  decide +kernel

theorem witness_PortsAnswerBeforeAnyBlock :
    (Instr.readTime (.station 0) 9 []).parts = some (.station 0, 0x59, 9) ∧
    (let s := stationPort [waiting, .reserved 0x34 7] ready
     (s.port (.station 0)).isFull = true) ∧
    (let s := stationPort [.reserved 0x34 7] ready
     (s.port (.station 0)).hasPending = true ∧ (s.port (.station 0)).isFull = false) ∧
    PortFree (stationPort [waiting] ready) (.station 0) ∧ PortFree ready (.station 0) ∧
    ((Instr.unknownKind (.station 0) 0x04 9).wellFormed = true ∧
      (Instr.unknownKind (.station 0) 0x04 9).parts = some (.station 0, 0x04, 9) ∧ Kind.ofCode 0x04 = none) ∧
    ((Instr.admitPass (.station 0) 9 []).wellFormed = true ∧ (Instr.admitPass (.station 0) 9 []).parts = some (.station 0, 0x01, 9) ∧
      Kind.ofCode 0x01 = some .admitPass ∧ permitted .admitPass (.station 0) = false) ∧
    ((Instr.readTime (.station 0) 9 []).wellFormed = true ∧ Kind.ofCode 0x59 = some .readTime ∧
      permitted .readTime (.station 0) = true ∧ State.reset.phase = .starting ∧ PortFree State.reset (.station 0)) := by
  decide +kernel

theorem witness_EngineRequestsJoinThePendingSet :
    ((Instr.admitPass (.lane 0) 1 [0, 0, 8, 0x53]).engineParts = some (.lane 0, .admitPass, 1, [0, 0, 8, 0x53]) ∧
      Open pendingAdmit (.lane 0) ∧ permitted .admitPass (.lane 0) = true) ∧
    ((Instr.tariffLock (.station 1) 1 []).engineParts = some (.station 1, .tariffLock, 1, []) ∧
      Open pendingAdmit (.station 1) ∧ permitted .tariffLock (.station 1) = true) ∧
    Open (stationPort [waiting] ready) (.station 0) := by decide +kernel

theorem witness_SelectPeriodsCarryOneResponse :
    ((stationPort [waiting, .reserved 0x34 7] ready).port (.station 0)).positions =
      .ready { kind := 0x59, tag := 1, code := .ok, body := [] } :: [.reserved 0x34 7] ∧
    ((stationPort [.reserved 0x34 7, waiting] ready).port (.station 0)).firstReady = false ∧
    (ready.port (.station 0)).firstReady = false ∧ (ready.port (.station 0)).selected = false := by decide +kernel

theorem witness_AttentionLinesFollowPositionsAndNotices :
    ((stationPort [.reserved 0x34 7, waiting] ready).port (.station 0)).positions = .reserved 0x34 7 :: [waiting] ∧
    ∃ t, exec .deviceReset busy = .next t := ⟨by decide +kernel, _, rfl⟩

/-- The device with passes in the store and an ADMIT of LP4 pending for lane 4 in SELF. -/
def admittingAt4 (store : List PassRecord) : State := { pendingAdmit.setLane 4 (laneIn .self []) with store := store }

theorem witness_PortResetEffect :
    (let s : State := { pendingAdmit with engine := { ready.engine with deferred := [.request admitRequest] } }
     s.dayDue = false ∧ s.engine.nextTask = none ∧ admitRequest.port = .lane 4 ∧ s.pageBusy = none ∧
      s.engine.deferred = .request admitRequest :: [] ∧ engineOp admitRequest.kind admitRequest.body = some (.admitPass 2131)) ∧
    (let s := admittingAt4 [passA]
     s.dayDue = false ∧ s.engine.nextTask = none ∧ s.engine.deferred = [] ∧
      s.engine.choose s.profile.policy = some admitRequest ∧ s.meetsBusy (EngineOp.admitPass 2131).needs = false ∧
      admitRequest.body = beBytes 4 2131 ∧ admitRequest.kind = .admitPass ∧ s.pageBusy ≠ some (2131 % 2048) ∧
      (s.lane 4).current = .self ∧ (s.lane 4).inflight.length < 2 ∧ 0 < s.profile.passTimeout ∧
      s.record 2131 = some passA ∧ verdict (s.admitCtx 4) (some passA) = .consume) ∧
    (let r : PassRecord := { passRidden with usage := { passRidden.usage with stamp := none } }
     let s := (admittingAt4 [r]).setLane 4 (laneIn .attended [entryOf (some release)])
     (s.lane 4).current = .attended ∧ (s.lane 4).inflight.length < 2 ∧ s.record 2131 = some r ∧
      verdict (s.admitCtx 4) (some r) = .reride) ∧
    (let q : Request := { admitRequest with body := [] }
     let s : State := { ready with engine := { ready.engine with pendingSet := [q] } }
     s.engine.choose s.profile.policy = some q ∧ engineOp q.kind q.body = none) ∧
    ({ ready with engine := { ready.engine with tasks := [taskOf .void] } } : State).engine.nextTask ≠ none ∧
    ((∀ r ∈ (admittingAt4 []).engine.pendingSet, r.port ≠ .lane 3) ∧
      ∀ w ∈ (admittingAt4 []).engine.deferred, w.isOf (.lane 3) = false) ∧
    ready.staging = .empty ∧ (opened [] []).staging = .opened (buffer []) 200000 ∧ (buffer []).owner = 0 ∧
      (buffer []).owner ≠ 1 ∧ (committing [] []).staging = .committing (buffer []) { image := [], disowned := false } := by
  decide +kernel

theorem witness_PortLawIsKept :
    PortLaw busy ∧ (∃ t, step (queued .engineTakeWork busy) = .next t) ∧ PortLaw (queued .engineTakeWork busy) ∧
    PortLaw (queued (.writeCompletion .success) writing) ∧ ∃ t, step (queued (.writeCompletion .success) writing) = .next t :=
  ⟨by decide +kernel, ⟨_, rfl⟩, by decide +kernel, by decide +kernel, _, rfl⟩

theorem witness_StationRestartBecomesDue :
    Open ready (.station 0) ∧
    (let s : State := { ready with restartDue := some 200000 }
     s.restartDue = some 200000 ∧ 200000 ≤ s.elapsed) ∧
    (let s : State := { ready with restartDue := some 200001 }
     s.restartDue = some 200001 ∧ s.elapsed < 200001) ∧
    ready.restartDue = none ∧
    let s : State :=
      { ready.setPort (.lane 0) PortState.reset with
        restartDue := some 200500
        stationPorts := ready.stationPorts.set 0
          { positions := [.ready { kind := 0x70, tag := 4, code := .ok, body := [] }, waiting], selected := true, sending := true
            sent := 64, restartSent := false, line := .ignoring } }
    s.restartDue = some 200500 ∧
      (s.port (.station 0)).positions = .ready { kind := 0x70, tag := 4, code := .ok, body := [] } :: [waiting] ∧
      (s.port (.station 0)).sending = true := by decide +kernel

theorem witness_DeviceResetLeaves :
    (logged 95 busy).count.log.length < 96 ∧ 96 ≤ (logged 96 busy).count.log.length := by decide +kernel

theorem witness_StartupEndsReady :
    let s : State := { State.reset with profile := { Profile.default with lanesEnabled := 5 } }
    s.phase = .starting ∧ (4 : LaneId).val < s.profile.lanesEnabled ∧ s.profile.lanesEnabled ≤ (5 : LaneId).val ∧
      ready.phase = .ready := by decide +kernel

/-! ### Table engine -/

/-- The device with so many deferred ADMITs for page 83 while it is being written, and work as given. -/
def deferring (n : Nat) (tasks : List Task) (pending : List Request) : State :=
  { committing [passRidden] [stagedA .copied] with
    engine :=
      { ready.engine with
        tasks := tasks, pendingSet := pending, deferred := List.replicate n (.request { admitRequest with port := .lane 0 }) } }

/-- A TARIFF_LOCK pending at SP1, which needs no page. -/
def lockRequest (body : List Byte) : Request := { port := .station 1, kind := .tariffLock, tag := 2, body := body, left := false }

theorem witness_EngineTakesWorkInOrder :
    (let s : State := { withRecord passRidden with engine := { ready.engine with tasks := [taskOf .void] } }
     s.dayDue = false ∧ s.engine.tasks.find? (fun t => !t.left) = some (taskOf .void) ∧
      s.meetsBusy (pageOfSerial (taskOf .void).pass.serial) = false) ∧
    (let s : State := { withRecord passRidden with engine := { ready.engine with deferred := [.task (taskOf .confirm)] } }
     s.dayDue = false ∧ s.engine.nextTask = none ∧ s.pageBusy = none ∧ s.engine.deferred = .task (taskOf .confirm) :: []) ∧
    (ready.dayDue = false ∧ ready.engine.nextTask = none ∧ ready.engine.deferred = [] ∧
      ready.engine.choose ready.profile.policy = none) ∧
    (let s : State := { ready with engine := { ready.engine with pendingSet := [lockRequest [1]] } }
     s.dayDue = false ∧ s.engine.nextTask = none ∧ s.engine.deferred = [] ∧
      s.engine.choose s.profile.policy = some (lockRequest [1]) ∧ engineOp .tariffLock [1] = none) ∧
    (let s := deferring 8 [] [lockRequest []]
     s.dayDue = false ∧ s.engine.nextTask = none ∧ s.pageBusy ≠ none ∧
      s.engine.choose s.profile.policy = some (lockRequest []) ∧ engineOp .tariffLock [] = some .tariffLock ∧
      s.meetsBusy EngineOp.tariffLock.needs = false) ∧
    ([7, 8].all (fun n =>
      let s := deferring n [{ taskOf .confirm with left := true }, taskOf .void] []
      s.dayDue == false && s.pageBusy == some 83 && s.engine.nextTask == some (taskOf .void) &&
        pageOfSerial (taskOf .void).pass.serial == some 83 && s.engine.deferred.length == n)) = true ∧
    ([7, 8].all (fun n =>
      let s := deferring n [] [admitRequest]
      s.dayDue == false && s.pageBusy == some 83 && s.engine.nextTask == none &&
        s.engine.choose s.profile.policy == some admitRequest &&
        engineOp admitRequest.kind admitRequest.body == some (.admitPass 2131) && (EngineOp.admitPass 2131).needs == some 83 &&
        s.engine.deferred.length == n)) = true ∧
    ({ pendingAdmit with timebase := { clock with currentDay := 149 } } : State).dayDue = true := by decide +kernel

/-- An entitlement with every field that has a greatest sendable value at it. -/
def largest : Entitlement :=
  { serial := 2 ^ 32 - 1, classNo := 255, firstDay := 65535, window := 255, rideDays := 255, paid := 2 ^ 24 - 1
    blocked := true, zones := some 0xFFFF, hours := some { fromMinute := 65535, toMinute := 65535 } }

theorem witness_EngineBodiesSpellTheirOperands :
    (0 < 2 ^ 32 ∧ 2 ^ 32 - 1 < 2 ^ 32 ∧ 14 < 256 ∧ 15 < 256 ∧ 2 ^ 24 - 1 < 2 ^ 24) ∧
    (2047 < 65536 ∧ 2048 < 65536 ∧ 31 < 256 ∧ 32 < 256 ∧ 64 ≤ 64 ∧ 255 < 256) ∧
    (largest.serial < 2 ^ 32 ∧ largest.classNo < 256 ∧ largest.firstDay < 65536 ∧ largest.window < 256 ∧
      largest.rideDays < 256 ∧ largest.paid < 2 ^ 24) ∧
    (∀ h, largest.hours = some h → h.fromMinute < 65536 ∧ h.toMinute < 65536) ∧
    ((∀ i : Fin 14, class12.prices[i.val] < 2 ^ 24) ∧ class12.feeMin < 65536 ∧ class12.feePermille < 65536 ∧
      class12.step < 65536 ∧ class12.capPermille < 65536) ∧
    (2 ≤ (([2] : List Byte).getD 0 0).toNat ∧ 2 ≤ ((zeros 51 ++ [(255 : Byte)]).getD 51 0).toNat) ∧
    engineOp .tariffPut (beBytes 1 63 ++ tariffBytes class12) = some (.tariffPut 63 class12) ∧
    engineOp .recordPut (entitlementBytes passA.ent) = some (.recordPut passA.ent) := by
  refine ⟨by decide, by decide, by decide, ?_, by decide +kernel, by decide, by decide +kernel, by decide +kernel⟩
  intro h hh
  cases hh
  decide

theorem witness_PolicyChoosesTheFirstPort :
    let e : Engine := { Engine.reset with pendingSet := [admitRequest, lockRequest []], tasks := [] }
    e.onePerPort ∧ e.choose .lanesFirst = some admitRequest ∧ e.choose .stationFirst = some (lockRequest []) ∧
      ({ e with tasks := [taskOf .void] } : Engine).choose .roundRobin = some (lockRequest []) ∧
      Engine.reset.onePerPort ∧ Engine.reset.choose .roundRobin = none := by decide +kernel

theorem witness_EngineLawIsKept :
    (LaneLaw (queued .engineTakeWork busy) ∧ EngineLaw (queued .engineTakeWork busy)) ∧
    (∃ t, step (queued .engineTakeWork busy) = .next t) ∧
    (LaneLaw (queued (.passTimeout 2) writing) ∧ EngineLaw (queued (.passTimeout 2) writing)) ∧
    ∃ t, step (queued (.passTimeout 2) writing) = .next t :=
  ⟨by decide +kernel, ⟨_, rfl⟩, by decide +kernel, _, rfl⟩

theorem witness_BusyPageStandsStill :
    let s := deferring 7 [] [{ port := .station 1, kind := .block, tag := 2, body := [0, 0, 8, 0x53], left := false }]
    s.staging = .committing (buffer [stagedA .copied]) { image := buildPage [passRidden] [stagedA .copied], disowned := false } ∧
    ∃ t, exec .engineTakeWork s = .next t := ⟨by decide +kernel, _, rfl⟩

/-! ### Admission -/

/-- The readings of an ADMIT at lane 2 of `ready`: day 150, minute 244, lift 0, zone 0, passback 120 s. -/
def reading : AdmitCtx := { time := 12974640000, day := 150, minute := 244, lift := 0, zone := 0, passback := 120 }

/-- The pass with another entitlement. -/
def passEnt (f : Entitlement → Entitlement) : PassRecord := { passA with ent := f passA.ent }

/-- The pass with so many ride-days used before today and refunded, and a stamp at a time and lift. -/
def passUsed (used refunded : Nat) (time : Nat) (lift : LiftId) : PassRecord :=
  { passA with
    usage :=
      { used := (List.range used).map (fun d => { day := 146 + d, state := .confirmed })
        refundedDays := refunded, stamp := some { time := time, lift := lift } } }

/-- The zone test of the check order. -/
def zoneBad (r : PassRecord) : Prop := ∃ m, r.ent.zones = some m ∧ m.getLsbD reading.zone = false
/-- The hours test of the check order. -/
def hoursBad (r : PassRecord) : Prop :=
  ∃ h, r.ent.hours = some h ∧ ¬ (h.fromMinute ≤ reading.minute ∧ reading.minute < h.toMinute)
/-- The passback test of the check order. -/
def passbackBad (r : PassRecord) : Prop :=
  ∃ st, r.usage.stamp = some st ∧ 0 < reading.passback ∧ st.lift = reading.lift ∧ st.time ≤ reading.time ∧
    reading.time - st.time < reading.passback * 1000
/-- The window test of the check order. -/
abbrev inWindow (r : PassRecord) : Prop :=
  r.ent.firstDay ≤ reading.day ∧ reading.day ≤ r.ent.firstDay + r.ent.window - 1

theorem zoneBad_iff (r : PassRecord) : zoneBad r ↔ zoneRefuses r.ent.zones 0 = true := by
  unfold zoneBad zoneRefuses; cases r.ent.zones <;> simp [reading]
theorem hoursBad_iff (r : PassRecord) : hoursBad r ↔ hoursRefuse r.ent.hours 244 = true := by
  unfold hoursBad hoursRefuse
  cases r.ent.hours with
  | none => simp
  | some h => simp [reading]; omega
theorem passbackBad_iff (r : PassRecord) : passbackBad r ↔ passbackRefuses reading r.usage.stamp = true := by
  unfold passbackBad passbackRefuses
  cases r.usage.stamp with
  | none => simp
  | some st => simp [and_assoc]

theorem witness_AdmitCheckOrder :
    ready.admitCtx 2 = reading ∧ (passEnt (fun e => { e with blocked := true })).ent.blocked = true ∧
    reading.day < (passEnt (fun e => { e with firstDay := 151 })).ent.firstDay ∧
    (let r := passEnt (fun e => { e with firstDay := 144 })
     r.ent.firstDay ≤ reading.day ∧ r.ent.firstDay + r.ent.window - 1 < reading.day) ∧
    (let r := passEnt (fun e => { e with zones := some 0xFFFE })
     inWindow r ∧ zoneBad r) ∧
    (let r := passEnt (fun e => { e with zones := some 1, hours := some { fromMinute := 0, toMinute := 244 } })
     inWindow r ∧ ¬ zoneBad r ∧ hoursBad r) ∧
    ([12974640000, 12974520001].all (fun time => passbackRefuses reading (passUsed 1 0 time 0).usage.stamp) = true ∧
      ∀ time, let r := passUsed 1 0 time 0
        passbackRefuses reading r.usage.stamp = true → inWindow r ∧ ¬ zoneBad r ∧ ¬ hoursBad r ∧ passbackBad r) ∧
    (let r := passRidden
     inWindow r ∧ ¬ zoneBad r ∧ ¬ hoursBad r ∧ passbackBad r) ∧
    (let r : PassRecord := { passRidden with usage := { passRidden.usage with stamp := some { time := 12974520000, lift := 0 } } }
     inWindow r ∧ ¬ zoneBad r ∧ ¬ hoursBad r ∧ ¬ passbackBad r ∧ ∃ u ∈ r.usage.used, u.day = reading.day) ∧
    (let r := passUsed 3 0 12974640001 0
     inWindow r ∧ ¬ zoneBad r ∧ ¬ hoursBad r ∧ ¬ passbackBad r ∧ (¬ ∃ u ∈ r.usage.used, u.day = reading.day) ∧
      r.usage.used.length + r.usage.refundedDays < r.ent.rideDays) ∧
    (let r := passUsed 2 2 12974640000 1
     inWindow r ∧ ¬ zoneBad r ∧ ¬ hoursBad r ∧ ¬ passbackBad r ∧ (¬ ∃ u ∈ r.usage.used, u.day = reading.day) ∧
      r.ent.rideDays ≤ r.usage.used.length + r.usage.refundedDays) := by
  simp only [zoneBad_iff, hoursBad_iff, passbackBad_iff]
  refine ⟨by decide +kernel, by decide +kernel, by decide +kernel, by decide +kernel, by decide +kernel, by decide +kernel,
    ⟨by decide +kernel, fun time h => ⟨?_, ?_, ?_, h⟩⟩, by decide +kernel, by decide +kernel, by decide +kernel, by decide +kernel⟩
  · show inWindow passA; decide
  · show ¬ zoneRefuses passA.ent.zones 0 = true; decide
  · show ¬ hoursRefuse passA.ent.hours 244 = true; decide

/-- The device with a record and lane 2 as given. -/
def atLane2 (r : PassRecord) (l : Lane) : State := (withRecord r).setLane 2 l

theorem witness_RefusedAdmitsCountOnly :
    ((withLane (laneIn .shut [])).lane 2).current = .shut ∧
    (let l := (withLane (laneIn .attended [freeEntry, freeEntry])).lane 2
     l.current = .attended ∧ 2 ≤ l.inflight.length) ∧
    (let s := atLane2 (passUsed 4 0 0 0) (laneIn .attended [freeEntry])
     (s.lane 2).current ≠ .shut ∧ (s.lane 2).inflight.length < 2 ∧ s.record 2132 = none ∧
      s.record 2131 = some (passUsed 4 0 0 0) ∧
      verdict (s.admitCtx 2) (some (passUsed 4 0 0 0)) = .refused .noDaysLeft) ∧
    (let s := atLane2 passRidden (laneIn .observe [])
     (s.lane 2).current = .observe ∧ s.record 2131 = some passRidden ∧
      verdict (s.admitCtx 2) (some passRidden) = .refused .passback) := by decide +kernel

theorem witness_AdmissionPlacesAnEntry :
    (let s := atLane2 passA (laneIn .self [])
     (s.lane 2).current = .self ∧ (s.lane 2).inflight.length < 2 ∧ 0 < s.profile.passTimeout ∧ s.record 2131 = some passA ∧
      verdict (s.admitCtx 2) (some passA) = .consume) ∧
    (let r : PassRecord := { passRidden with usage := { passRidden.usage with stamp := none } }
     let s := atLane2 r (laneIn .attended [freeEntry])
     (s.lane 2).current = .attended ∧ (s.lane 2).inflight.length < 2 ∧ s.record 2131 = some r ∧
      verdict (s.admitCtx 2) (some r) = .reride) := by decide +kernel

theorem witness_ObserveAdmissionSettlesTheDay :
    (let used : List UsedDay := [{ day := 149, state := .confirmed }, { day := 151, state := .provisional 2 }]
     used.Pairwise (fun x y => x.day < y.day) ∧ ∀ v ∈ used, v.day ≠ 150) ∧
    (let s := atLane2 passA (laneIn .observe [])
     (s.lane 2).current = .observe ∧ s.record 2131 = some passA ∧ verdict (s.admitCtx 2) (some passA) = .consume) ∧
    (let r : PassRecord := { passRidden with usage := { passRidden.usage with stamp := none } }
     let s := atLane2 r (laneIn .observe [])
     (s.lane 2).current = .observe ∧ s.record 2131 = some r ∧ verdict (s.admitCtx 2) (some r) = .reride) := by
  decide +kernel

/-- The pass with day 150 CONFIRMED and an earlier day used. -/
def passDone : PassRecord :=
  { passA with usage := { used := [{ day := 149, state := .confirmed }, { day := 150, state := .confirmed }] } }

/-- The pass with day 150 PROVISIONAL under two holders. -/
def passTwice : PassRecord :=
  { passRidden with
    usage := { passRidden.usage with used := [{ day := 150, state := .provisional 2 }], stamp := some { time := 1, lift := 1 } } }

theorem witness_TasksSettleTheirDay :
    (let s := atLane2 passTwice (laneIn .self [entryOf (some release), freeEntry])
     StoreLaw s ∧ s.record admission.serial = some passTwice ∧ admission.heldDay = some 150 ∧
      dayState passTwice.usage.used 150 = some (.provisional 2) ∧
      (s.lane 2).inflight[0]? = some (entryOf (some release)) ∧ (entryOf (some release)).holds 2131 150 = true ∧
      (entryOf (some release)).kind = .pass admission ∧
      (s.lane 2).inflight[1]? = some freeEntry ∧ freeEntry.holds 2131 150 = false) ∧
    (ready.record admission.serial = none ∧ (withRecord passDone).record admission.serial = some passDone ∧
      dayState passDone.usage.used 150 = some .confirmed ∧ dayState passA.usage.used 150 = none ∧
      ({ admission with heldDay := none } : Admission).heldDay = none) ∧
    (passRidden.usage.stamp = some admission.stampSet ∧ passTwice.usage.stamp ≠ some admission.stampSet ∧
      dayState passRidden.usage.used 150 = some (.provisional 1)) ∧
    (passDone.usage.used.Pairwise (fun x y => x.day < y.day) ∧ ∀ u ∈ passDone.usage.used, u.state ≠ .provisional 0) ∧
    (passTwice.usage.used.Pairwise (fun x y => x.day < y.day) ∧ ∀ u ∈ passTwice.usage.used, u.state ≠ .provisional 0) := by
  decide +kernel

theorem witness_HolderLawIsKept :
    (LaneLaw (queued (.passTimeout 2) busy) ∧ HolderLaw (queued (.passTimeout 2) busy)) ∧
    (∃ t, step (queued (.passTimeout 2) busy) = .next t) ∧
    (LaneLaw (queued (.writeCompletion .success) writing) ∧ HolderLaw (queued (.writeCompletion .success) writing)) ∧
    ∃ t, step (queued (.writeCompletion .success) writing) = .next t :=
  ⟨⟨by decide +kernel, by decide +kernel⟩, ⟨_, rfl⟩, ⟨by decide +kernel, by decide +kernel⟩, _, rfl⟩

/-! ### Reads, pass store and staging buffer -/

theorem witness_EngineReadsChangeNothing :
    (withRecord passA).record 2131 = some passA ∧ ready.record 2131 = none ∧ ready.staging = .empty ∧
      (opened [] []).staging = .opened (buffer []) 200000 ∧
      (committing [] []).staging = .committing (buffer []) { image := [], disowned := false } := by decide +kernel

theorem witness_BlockWritesEveryCopy :
    let live := fun (s : State) => ∃ r ∈ s.store, r.ent.serial = 2131
    let staged := fun (s : State) =>
      ∃ b, s.staging.buffer = some b ∧ b.page = 2131 % 2048 ∧ ∃ e ∈ b.entries, e.ent.serial = 2131
    (2131 ≠ 0 ∧ ¬ live ready ∧ ¬ staged ready) ∧ (live (withRecord passA) ∧ ¬ staged (withRecord passA)) ∧
    (¬ live (opened [] [stagedA .new]) ∧ staged (opened [] [stagedA .new])) ∧
    (live (committing [passA] [stagedA .copied]) ∧ staged (committing [passA] [stagedA .copied])) := by
  refine ⟨⟨by decide, by decide +kernel, ?_⟩, ⟨by decide +kernel, ?_⟩, ⟨by decide +kernel, ?_⟩, by decide +kernel, ?_⟩
  · rintro ⟨b, h, -⟩
    exact nomatch h
  · rintro ⟨b, h, -⟩
    exact nomatch h
  · exact ⟨_, rfl, by decide +kernel⟩
  · exact ⟨_, rfl, by decide +kernel⟩

theorem witness_StoreLawIsKept :
    (StoreLaw (queued .engineTakeWork busy) ∧ EngineLaw (queued .engineTakeWork busy)) ∧
    (∃ t, step (queued .engineTakeWork busy) = .next t) ∧
    (StoreLaw (queued (.writeCompletion .success) writing) ∧ EngineLaw (queued (.writeCompletion .success) writing)) ∧
    ∃ t, step (queued (.writeCompletion .success) writing) = .next t :=
  ⟨by decide +kernel, ⟨_, rfl⟩, by decide +kernel, _, rfl⟩

theorem witness_BufferOpensAndEmpties :
    ready.staging = .empty ∧ (opened [] []).staging ≠ .empty ∧
    (committing [] []).staging = .committing (buffer []) { image := [], disowned := false } ∧
    (opened [] []).staging = .opened (buffer []) 200000 ∧ (buffer []).owner = 0 ∧ (buffer []).owner ≠ 1 ∧
    (let s : State := { opened [] [] with elapsed := 320000 }
     s.staging = .opened (buffer []) 200000 ∧ 200000 + 120000 ≤ s.elapsed) ∧
    (let s : State := { opened [] [] with elapsed := 319999 }
     s.staging = .opened (buffer []) 200000 ∧ s.elapsed < 200000 + 120000) ∧
    ∀ b mark, ready.staging ≠ .opened b mark := by
  refine ⟨by decide +kernel, by decide +kernel, by decide +kernel, by decide +kernel, by decide +kernel, by decide +kernel,
    by decide +kernel, by decide +kernel, ?_⟩
  intro b mark h
  exact nomatch h

/-- Staged entries of page 83 with so many serials, from 2,131 on. -/
def entriesTo (n : Nat) : List Staged :=
  (List.range n).map (fun k => { ent := { passA.ent with serial := 2131 + 2048 * k }, mark := .new })

theorem witness_RecordPutAndDropEditOneEntry :
    (ready.staging = .empty ∧ (committing [] []).staging = .committing (buffer []) { image := [], disowned := false } ∧
      (opened [] []).staging = .opened (buffer []) 200000 ∧ (buffer []).owner ≠ 1) ∧
    let other : Entitlement := { passA.ent with serial := 83 }
    let fullBuffer : List Staged := entriesTo 32
    (opened [] fullBuffer).staging = .opened (buffer fullBuffer) 200000 ∧ ({ passA.ent with serial := 84 } : Entitlement).serial % 2048 ≠ 83 ∧
    (other.serial % 2048 = 83 ∧ (∀ q ∈ fullBuffer, q.ent.serial ≠ other.serial) ∧ 32 ≤ fullBuffer.length) ∧
    (passA.ent.serial % 2048 = 83 ∧ fullBuffer.Pairwise (fun x y => x.ent.serial < y.ent.serial) ∧
      ∃ q ∈ fullBuffer, q.ent.serial = passA.ent.serial) ∧
    ((entriesTo 31).Pairwise (fun x y => x.ent.serial < y.ent.serial) ∧ (entriesTo 31).length < 32) ∧
    (∀ e ∈ fullBuffer, e.ent.serial ≠ 83) ∧
    (∃ before e after, entriesTo 3 = before ++ e :: after ∧ e.ent.serial = 4179 ∧
      (entriesTo 3).Pairwise (fun x y => x.ent.serial < y.ent.serial)) ∧
    passA.ent.serial = 2131 ∧ passA.ent.serial % 2048 = (buffer []).page := by
  refine ⟨by decide +kernel, by decide +kernel, by decide +kernel, by decide +kernel, by decide +kernel, by decide +kernel,
    by decide +kernel, ⟨(entriesTo 3).take 1, (entriesTo 3)[1], (entriesTo 3).drop 2, by decide +kernel⟩, by decide +kernel, by decide +kernel⟩

/-- The staged entry REPLACED, with other ride-days, window and price. -/
def replacedBy (rideDays window paid : Nat) : Staged :=
  { ent := { passA.ent with rideDays := rideDays, window := window, paid := paid }, mark := .replaced }

/-- The pass with days 148 and 153 used, one refunded, and 9,200 paid back. -/
def passEdge : PassRecord :=
  { passA with
    usage := { used := [{ day := 148, state := .confirmed }, { day := 153, state := .confirmed }], refundedDays := 1
               refundedTotal := 9200 } }

theorem witness_CommitConflictsOrBeginsItsWrite :
    (let es := [stagedA .copied]
     (∀ e ∈ ([] : List Staged), e.ent.serial ≠ passRidden.ent.serial) ∧ stagedA .copied ∈ es ∧
      (stagedA .copied).ent.serial = passRidden.ent.serial ∧ es.Pairwise (fun x y => x.ent.serial < y.ent.serial) ∧
      (stagedA .copied).mark ≠ .replaced) ∧
    (let e := replacedBy 2 5 9199
     e.mark = .replaced ∧ e.ent.rideDays < passEdge.usage.used.length + passEdge.usage.refundedDays) ∧
    (let e := replacedBy 3 5 9199
     passEdge.usage.used.length + passEdge.usage.refundedDays ≤ e.ent.rideDays ∧
      ∃ u ∈ passEdge.usage.used, u.day < e.ent.firstDay ∨ e.ent.firstDay + e.ent.window - 1 < u.day) ∧
    (let e := replacedBy 3 6 9199
     (∀ u ∈ passEdge.usage.used, e.ent.firstDay ≤ u.day ∧ u.day ≤ e.ent.firstDay + e.ent.window - 1) ∧
      e.ent.paid < passEdge.usage.refundedTotal) ∧
    (let s := opened [passEdge] [replacedBy 3 6 9199]
     s.staging = .opened (buffer [replacedBy 3 6 9199]) 200000 ∧ pageRecords s.store 83 = [] ++ passEdge :: [] ∧
      (∀ q ∈ ([] : List PassRecord), recordConflict [replacedBy 3 6 9199] q = none) ∧
      recordConflict [replacedBy 3 6 9199] passEdge = some .paid) ∧
    (let s := opened [passEdge] [replacedBy 3 6 9200]
     s.staging = .opened (buffer [replacedBy 3 6 9200]) 200000 ∧
      ∀ q ∈ pageRecords s.store 83, recordConflict [replacedBy 3 6 9200] q = none) ∧
    (ready.staging = .empty ∧ (committing [] []).staging = .committing (buffer []) { image := [], disowned := false } ∧
      (buffer []).owner ≠ 1) := by decide +kernel

theorem witness_WriteCompletionSettlesThePage :
    writing.staging = .committing (buffer [stagedA .copied]) { image := [passRidden], disowned := false } ∧ StoreLaw writing ∧
    (1 : Nat) ≠ (buffer [stagedA .copied]).page ∧ ready.pageBusy = none := by decide +kernel

/-! ### Refunds and the tariff -/

/-- The device of the worked refunds with another record of the pass, tariff class, or journal length. -/
def refundingWith (r : PassRecord) (c : TariffClass) (n : Nat) : State :=
  { refunding with
    store := [r]
    refund :=
      { refunding.refund with
        tariff := refunding.refund.tariff.set 12 c
        journal := List.replicate n
          { seq := 1, serial := 88411, classNo := 12, days := 1, amount := 50, day := 43, time := 1, port := .station 0 } } }

theorem witness_RefundsFollowTheirStages :
    (class12.lapsed = false ∧ ({ class12 with lapsed := true } : TariffClass).lapsed = true) ∧
    (let r := pass88411 [41, 43] 0 0
     40 < r.ent.firstDay ∧ r.ent.firstDay ≤ 47 ∧ r.ent.firstDay + r.ent.window - 1 < 47 ∧ r.ent.firstDay ≤ 43 ∧
      43 ≤ r.ent.firstDay + r.ent.window - 1 ∧ (∃ u ∈ r.usage.used, u.day = 43) ∧ ∀ u ∈ r.usage.used, u.day ≠ 46) ∧
    ((let c : TariffClass := { class12 with feePermille := 0, feeMin := 0, capPermille := 0, step := 1 }
      c.feePermille = 0 ∧ c.feeMin = 0 ∧ c.capPermille = 0 ∧ c.step = 1) ∧
      class12.feePermille = 50 ∧ class12.feeMin ≤ 1171 ∧ ({ class12 with capPermille := 1000 } : TariffClass).capPermille = 1000 ∧
      1 ≤ class12.step) ∧
    (let r := pass88411 [41, 42] 0 31200
     r.ent.rideDays - r.usage.refundedDays = 6 ∧ 6 = 5 + (0 : Fin 14).val + 1 ∧
      (figuresFor class12 r 4).capLeft + min r.usage.refundedTotal (r.ent.paid * class12.capPermille / 1000) ≤
        r.usage.refundedTotal) ∧
    (let c : TariffClass := { class12 with capPermille := 0 }
     let r := pass88411 [41, 42] 0 0
     let s := refundingWith r c 511
     s.record 88411 = some r ∧ r.ent.blocked = false ∧ s.refund.locked = true ∧ (s.tariffOf 12).present = true ∧
      1 ≤ 4 ∧ 4 ≤ refundableDays (s.tariffOf 12) r s.opDay ∧ s.refund.journal.length < 512 ∧
      (figuresFor (s.tariffOf 12) r 4).amount = 0) := by decide +kernel

theorem witness_RefundRequestsAreCheckedInOrder :
    ready.record 88411 = none ∧
    (let r : PassRecord := { pass88411 [41, 42] 0 0 with ent := { (pass88411 [41, 42] 0 0).ent with blocked := true } }
     (refundingWith r class12 0).record 88411 = some r ∧ r.ent.blocked = true) ∧
    (let r := pass88411 [41, 42] 0 0
     let s := refundingWith r class12 511
     s.record 88411 = some r ∧ r.ent.blocked = false ∧ s.refund.locked = true ∧ (s.tariffOf r.ent.classNo).present = true ∧
      refundableDays (s.tariffOf r.ent.classNo) r s.opDay = 4 ∧ s.refund.journal.length < 512 ∧
      (figuresFor (s.tariffOf r.ent.classNo) r (min 5 4)).amount = 22200 ∧ 4 < 5 ∧ 22200 ≠ 22201 ∧
      ({ s with refund := { s.refund with locked := false } } : State).refund.locked = false) ∧
    (let s := refundingWith (pass88411 [41, 42] 0 0) { class12 with present := false } 0
     (s.tariffOf 12).present = false) ∧
    (let s := refundingWith (pass88411 [41, 42, 43, 44, 45, 46] 0 0) class12 0
     refundableDays (s.tariffOf 12) (pass88411 [41, 42, 43, 44, 45, 46] 0 0) s.opDay = 0) ∧
    512 ≤ (refundingWith (pass88411 [41, 42] 0 0) class12 512).refund.journal.length ∧
    (let c : TariffClass := { class12 with capPermille := 0 }
     (figuresFor c (pass88411 [41, 42] 0 0) (min 4 4)).amount = 0) := by decide +kernel

theorem witness_CommitMakesTheRefund :
    [0, 447, 511].all (fun n =>
      let r := pass88411 [41, 42] 0 0
      let s := refundingWith r class12 n
      let c := s.tariffOf r.ent.classNo
      s.record 88411 == some r && r.ent.blocked == false && s.refund.locked == true && c.present == true &&
        decide (1 ≤ 4 ∧ 4 ≤ refundableDays c r s.opDay ∧ s.refund.journal.length < 512 ∧
          (figuresFor c r 4).amount = 22200 ∧ 0 < 22200)) = true := by decide +kernel

theorem witness_TariffIsWrittenUntilLocked :
    ready.refund.locked = false ∧ refunding.refund.locked = true ∧ refunding.dayDue = false ∧
    ([false, true].all (fun locked =>
      let s : State :=
        { refunding with
          refund := { refunding.refund with locked := locked }
          engine := { refunding.engine with pendingSet := [lockRequest [1]] } }
      s.dayDue == false && s.engine.nextTask == none && s.engine.deferred == [] &&
        s.engine.choose s.profile.policy == some (lockRequest [1]) && (lockRequest [1]).kind == .tariffLock &&
        (lockRequest [1]).body != [])) = true ∧
    (∃ t, exec .dayChange refunding = .next t) ∧
    let s : State := { refunding with timebase := { clock with currentDay := 43 } }
    s.refund.locked = true ∧ ∃ t, exec .dayChange s = .next t ∧ t.refund.locked = false :=
  ⟨by decide +kernel, by decide +kernel, by decide +kernel, by decide +kernel, ⟨_, rfl⟩, by decide +kernel, _, rfl,
    by decide +kernel⟩

theorem witness_LogAndJournalStayConsecutive :
    (LogLaw (queued .deviceReset busy) ∧ JournalLaw (queued .deviceReset busy)) ∧
    ∃ t, step (queued .deviceReset busy) = .next t := ⟨by decide +kernel, _, rfl⟩

theorem witness_ReleasesRemoveTheOldestRun :
    Open ready (.station 0) ∧
    (let j := (refundingWith (pass88411 [] 0 0) class12 1).refund.journal
     (j.map (fun r => ((1 : Count32) - r.seq).toNat)) = [0] ∧
      (j.map (fun r => decide (2 ^ 31 ≤ ((0 : Count32) - r.seq).toNat))) = [true]) ∧
    (ready.count.log.map (fun r => decide (((0 : Count32) - r.seq).toNat < 2 ^ 31))) = [true] := by decide +kernel

/-! ### Lanes -/

/-- The lane with an error indication of both causes. -/
def failing (l : Lane) : Lane :=
  { l with errorFlag := true, firstCause := some .sensorFailed, causeSensor := true, causeLink := true, score := 195 }

/-- A waiting entry whose pass timeout ends at an elapsed time. -/
def waitingUntil (mark : Nat) : Entry := { entryOf none with admissionMark := mark - 8000 }

theorem witness_LaneStateMovesTheLane :
    Open ready (.station 0) ∧ laneStateOfByte 0 = some .shut ∧ laneStateOfByte 1 = some .attended ∧
    laneStateOfByte 2 = some .self ∧ laneStateOfByte 3 = some .observe ∧
    ({ ready with profile := { Profile.default with lanesEnabled := 2 } } : State).profile.lanesEnabled ≤ (2 : LaneId).val ∧
    (2 : LaneId).val < ready.profile.lanesEnabled ∧
    ([LaneState.shut, .attended, .self, .observe].all (fun st => (laneIn st []).current == st)) = true ∧
    (failing (laneIn .attended [])).errorFlag = true ∧ (laneIn .shut []).errorFlag = false ∧
    State.reset.timebase.status = .unset ∧ ready.timebase.status ≠ .unset ∧
    (laneIn .attended [entryOf none]).inflight ≠ [] ∧ (laneIn .attended []).inflight = [] ∧
    (laneIn .attended [entryOf (some release), entryOf none]).headReleased = true ∧
    (laneIn .attended [entryOf none, freeEntry]).inflight = entryOf none :: [freeEntry] ∧ (entryOf none).release = none := by
  decide +kernel

theorem witness_LaneAckClearsTheIndication :
    Open (withLane (failing (laneIn .attended []))) (.station 1) ∧
      ((withLane (failing (laneIn .attended []))).lane 2).errorFlag = true ∧ (ready.lane 2).errorFlag = false := by decide +kernel

theorem witness_ReleasesActOnTheList :
    Open ready (.station 0) ∧ 0 < ready.profile.passTimeout ∧
    (let l := laneIn .attended [entryOf none, waitingUntil 200001]
     l.current = .attended ∧ l.inflight = entryOf none :: [waitingUntil 200001] ∧ (entryOf none).release = none ∧
      ready.elapsed < (waitingUntil 200001).admissionMark + (waitingUntil 200001).admissionTimeout) ∧
    (waitingUntil 200000).admissionMark + (waitingUntil 200000).admissionTimeout ≤ ready.elapsed ∧
    (laneIn .self []).current ≠ .attended ∧ (laneIn .attended []).inflight = [] ∧
    (laneIn .attended [entryOf (some release)]).headReleased = true ∧
    (let isOpen := fun (l : Lane) => l.current = .self ∨ l.current = .attended
     ¬ isOpen (laneIn .shut []) ∧ ¬ isOpen (laneIn .observe []) ∧
      (isOpen (laneIn .attended [freeEntry, freeEntry]) ∧ 2 ≤ (laneIn .attended [freeEntry, freeEntry]).inflight.length) ∧
      isOpen (laneIn .self [freeEntry]) ∧ (laneIn .self [freeEntry]).inflight.length < 2) := by decide +kernel

theorem witness_LaneDurationsEnd :
    let at' := fun (elapsed : Nat) (l : Lane) => ({ withLane l with elapsed := elapsed } : State)
    let ended := fun (s : State) (e : Entry) =>
      (∃ r, e.release = some r ∧ r.mark + r.timeout ≤ s.elapsed) ∨
        (e.release = none ∧ (s.lane 2).current = .attended ∧ e.admissionMark + e.admissionTimeout ≤ s.elapsed)
    (ended (at' 208000 (laneIn .self [entryOf (some release)])) (entryOf (some release)) ∧
      ended (at' 208000 (laneIn .attended [entryOf none, freeEntry])) (entryOf none)) ∧
    ((at' 208000 (laneIn .attended [entryOf none, freeEntry])).lane 2).inflight = [entryOf none, freeEntry] ∧
    (let f : Entry := { freeEntry with admissionMark := 200001 }
     ¬ (f.admissionMark + f.admissionTimeout ≤ 208000) ∧ 208000 < f.admissionMark + f.admissionTimeout ∧
      freeEntry.admissionMark + freeEntry.admissionTimeout ≤ 208000) ∧
    (¬ ended (at' 207999 (laneIn .self [entryOf (some release)])) (entryOf (some release)) ∧
      ¬ ended (at' 207999 (laneIn .attended [entryOf none])) (entryOf none)) ∧
    (let s : State :=
      { at' 201500 (laneIn .attended [entryOf (some release)]) with
        profile := { Profile.default with modeOf := Vector.replicate 6 .timed } }
     (s.lane 2).inflight.head? = some (entryOf (some release)) ∧ (entryOf (some release)).release = some release ∧
      s.profile.modeOf[2] = .timed ∧ (s.lane 2).current = .attended ∧ release.mark + release.pulse ≤ s.elapsed) ∧
    (at' 201499 (laneIn .self [entryOf (some release)])).elapsed < release.mark + release.pulse ∧
    ready.profile.modeOf[2] = .held ∧
    (({ laneIn .self [] with sequencer := .bSeen 197000 } : Lane).sequencer = .bSeen 197000 ∧ 197000 + 3000 ≤ ready.elapsed ∧
      ready.elapsed < 197001 + 3000 ∧ (laneIn .self []).sequencer = .idle) ∧
    (let l : Lane := { laneIn .self [] with sensorB := { level := true, lastRise := 1, lastFall := 0, stuck := some { mark := 180000, counted := false } } }
     (l.sensor .b).stuck = some { mark := 180000, counted := false } ∧ 180000 + 20000 ≤ ready.elapsed ∧
      (l.sensor .a).stuck = none) ∧
    ready.elapsed < 180001 + 20000 ∧
    (bandOf (min 255 (0 + 32)) = bandOf 0 ∧ bandOf (min 255 (95 + 32)) ≠ bandOf 95 ∧ min 255 (95 + 32) < 192 ∧
      bandOf (min 255 (160 + 32)) ≠ bandOf 160 ∧ 192 ≤ min 255 (160 + 32)) := by
  refine ⟨⟨.inl ⟨release, by decide +kernel⟩, .inr (by decide +kernel)⟩, by decide +kernel, by decide +kernel, ⟨?_, ?_⟩,
    by decide +kernel, by decide +kernel, by decide +kernel, by decide +kernel, by decide +kernel, by decide +kernel,
    by decide +kernel⟩
  · rintro (⟨r, h, h'⟩ | ⟨h, -⟩)
    · cases h
      exact absurd h' (by decide +kernel)
    · exact nomatch h
  · rintro (⟨r, h, -⟩ | ⟨-, -, h⟩)
    · exact nomatch h
    · exact absurd h (by decide +kernel)

theorem witness_EdgesDriveTheSequencer :
    let seq := fun (q : Sequencer) => withLane { laneIn .self [] with sequencer := q }
    (seq .idle).takesEdges 2 = true ∧ ((seq .idle).lane 2).sequencer = .idle ∧
    (((seq (.aSeen 196999)).lane 2).sequencer = .aSeen 196999 ∧ 196999 + 3000 < ready.elapsed) ∧
    (((seq (.aSeen 197000)).lane 2).sequencer = .aSeen 197000 ∧ ready.elapsed ≤ 197000 + 3000) ∧
    (ArmSensor.a ≠ .b ∧ ((seq (.aSeen 199981)).lane 2).sequencer = .aSeen 199981 ∧ ready.elapsed < 199981 + 20) ∧
    bandOf (min 255 (0 + 8)) = bandOf 0 ∧ State.reset.takesEdges 2 = false ∧
    (bandOf (min 255 (88 + 8)) ≠ bandOf 88 ∧ min 255 (88 + 8) < 192) ∧
    (bandOf (min 255 (184 + 8)) ≠ bandOf 184 ∧ 192 ≤ min 255 (184 + 8)) := by decide +kernel

theorem witness_ForwardRotationsArePaired :
    let seq := fun (m : Nat) (l : Lane) => withLane { l with sequencer := .aSeen m }
    (let s := seq 199980 (laneIn .self [entryOf (some release), entryOf none])
     s.takesEdges 2 = true ∧ (s.lane 2).sequencer = .aSeen 199980 ∧ 199980 + 20 ≤ s.elapsed ∧ s.elapsed ≤ 199980 + 3000 ∧
      (s.lane 2).current = .self ∧ (s.lane 2).inflight = entryOf (some release) :: [entryOf none] ∧
      (entryOf (some release)).release ≠ none) ∧
    (let s := seq 197000 (laneIn .attended [entryOf (some release), waitingUntil 200001])
     s.takesEdges 2 = true ∧ 197000 + 20 ≤ s.elapsed ∧ s.elapsed ≤ 197000 + 3000 ∧ (s.lane 2).current = .attended ∧
      s.elapsed < (waitingUntil 200001).admissionMark + (waitingUntil 200001).admissionTimeout) ∧
    (waitingUntil 200000).admissionMark + (waitingUntil 200000).admissionTimeout ≤ ready.elapsed ∧
    ((seq 199000 (laneIn .observe [])).lane 2).current = .observe ∧ (seq 199000 (laneIn .observe [])).takesEdges 2 = true ∧
    ((seq 199000 (laneIn .shut [])).lane 2).current = .shut ∧ (seq 199000 (laneIn .shut [])).takesEdges 2 = true ∧
    (let s := seq 199000 (laneIn .attended [entryOf none])
     s.takesEdges 2 = true ∧ (s.lane 2).current = .attended ∧ (s.lane 2).headReleased = false) := by decide +kernel

theorem witness_ReverseRotationsOnlyCount :
    [199980, 197000].all (fun m =>
      let s := withLane { laneIn .self [entryOf (some release)] with sequencer := .bSeen m }
      s.takesEdges 2 == true && (s.lane 2).sequencer == .bSeen m && decide (m + 20 ≤ s.elapsed ∧ s.elapsed ≤ m + 3000)) = true := by
  decide +kernel

theorem witness_LaneLawIsKept :
    LaneLaw (queued (.passTimeout 2) busy) ∧ (∃ t, step (queued (.passTimeout 2) busy) = .next t) ∧
    (let s := queued .engineTakeWork (busy.setLane 4 (failing (laneIn .attended [])))
     LaneLaw s ∧ ∃ t, step s = .next t) := ⟨by decide +kernel, ⟨_, rfl⟩, by decide +kernel, _, rfl⟩

theorem witness_LanesOpenOnlyByLaneState :
    ∃ t, exec (.laneState (.station 0) 1 [2, 1]) ready = .next t ∧ (ready.lane 2).current = .shut ∧
      (t.lane 2).current ≠ .shut := ⟨_, rfl, by decide +kernel, by decide +kernel⟩

/-! ### Counting -/

/-- The device at a station time with a log of so many records and a next boundary. -/
def atBoundary (time boundary n : Nat) : State :=
  { ready with
    timebase := { clock with time := time }
    count := { ready.count with interval := Interval.fresh 0 boundary, log := logOf n } }

theorem witness_IntervalsCountAndClose :
    (let s := atBoundary 899999 900000 95
     s.timebase.time < s.count.interval.nextBoundary) ∧
    (let s := atBoundary 900000 900000 95
     s.count.interval.nextBoundary ≤ s.timebase.time ∧ s.count.log.length < 96 ∧ 0 < s.count.interval.nextBoundary) ∧
    (let s := atBoundary 900000 900000 96
     s.count.interval.nextBoundary ≤ s.timebase.time ∧ 96 ≤ s.count.log.length) ∧
    (CountEvent.passed 2 true ∈ ({ ready with countsInFlight := [.balk 1 false, .passed 2 true] } : State).countsInFlight ∧
      CountEvent.passedFree 2 true ∉ ready.countsInFlight) := by decide +kernel

theorem witness_PassedRidersAreConserved :
    let s := after (.countEvent (.passed 2 false)) { ready with countsInFlight := [.passed 2 false] }
    s.count.lifetime[2] = 1 ∧ (queued .deviceReset s).count.conserves ∧ ∃ t, step (queued .deviceReset s) = .next t :=
  ⟨by decide +kernel, by decide +kernel, _, rfl⟩

/-! ### Time -/

theorem witness_CalendarFollowsStationTime :
    (14399999 < 240 * 60000 ∧ 240 * 60000 ≤ 14400000 ∧ 14400000 < 240 * 60000 + 1024 * 86400000 ∧
      240 * 60000 + 1024 * 86400000 ≤ 14400000 + 1024 * 86400000) ∧
    (State.reset.timebase.status = .unset ∧ ready.timebase.status ≠ .unset) ∧
    (let aligned := fun (b : Nat) => ((b : Int) - 7 * 60000) % (15 * 60000) = 0
     1 ≤ 15 ∧ (aligned 420000 ∧ 420000 ≤ 420000) ∧ (∀ b, aligned b → 419999 < b) ∧ aligned 1320000 ∧ 420000 < 1320000) := by
  refine ⟨by decide, by decide +kernel, by decide, by decide, ?_, by decide, by decide⟩
  intro b h
  omega

/-- The device with a timebase state, its reference mark some milliseconds before now. -/
def referred (status : TimebaseStatus) (run : Nat) : State :=
  { ready with timebase := { clock with status := status, refMark := some (clock.time - run) } }

theorem witness_TimeNeverGoesBackUnforced :
    Open ready (.station 0) ∧ 12974637999 < 2 ^ 40 ∧ 12974637999 + 2000 < ready.timebase.time ∧
    0 + 2000 < ready.timebase.time ∧ (logged 95 ready).count.log.length < 96 ∧ 96 ≤ (logged 96 ready).count.log.length := by
  decide +kernel

theorem witness_ReferencesSlewOrSetTime :
    (let s := referred .free 600000
     Open s (.station 1) ∧ s.timebase.status ≠ .unset ∧ s.timebase.status = .free ∧
      (-2000 : Int) ≤ ((12974638000 : Nat) : Int) - s.timebase.time ∧ ((12974642000 : Nat) : Int) - s.timebase.time ≤ 2000 ∧
      s.timebase.refMark = some 12974040000 ∧ 12974040000 + 600000 ≤ s.timebase.time) ∧
    (let s := referred .locked 599999
     s.timebase.refMark = some 12974040001 ∧ s.timebase.time < 12974040001 + 600000) ∧
    (let s : State := { ready with timebase := Timebase.reset 0 150 12974640000 }
     Open s (.station 1) ∧ s.timebase.status = .unset ∧ s.timebase.time ≤ 12974640000 ∧
      (12974639999 < s.timebase.time ∧ 12974638000 < s.timebase.time ∧ s.timebase.time ≤ 12974638000 + 2000) ∧
      s.timebase.currentDay = operatingDay s.profile.rollover s.timebase.time ∧
      ({ s with timebase := Timebase.reset 0 149 12974640000 } : State).timebase.currentDay ≠
        operatingDay s.profile.rollover s.timebase.time) ∧
    96 ≤ (logged 96 ready).count.log.length ∧
    (ready.timebase.status ≠ .unset ∧ ready.timebase.time + 2000 < 12974642001 ∧ 12974642001 < 2 ^ 40) ∧
    12974637999 + 2000 < ready.timebase.time ∧ (logged 95 ready).count.log.length < 96 := by decide +kernel

theorem witness_TimebaseEventsTakeEffect :
    (let s : State := { ready with timebase := { clock with trim := 250, fraction := 999999, withheld := 1 } }
     let rises := (s.timebase.fraction + (1000000 + s.timebase.trim).toNat) / 1000000
     s.timebase.lawful ∧ s.timebase.withheld ≤ rises ∧ s.timebase.time + (rises - s.timebase.withheld) ≤ 2 ^ 40 - 1) ∧
    (let s : State := { ready with timebase := { clock with time := 2 ^ 40 - 1 } }
     let rises := (s.timebase.fraction + (1000000 + s.timebase.trim).toNat) / 1000000
     s.timebase.lawful ∧ s.timebase.time = 2 ^ 40 - 1 ∧ s.timebase.withheld ≤ rises ∧
      2 ^ 40 - 1 < s.timebase.time + (rises - s.timebase.withheld)) ∧
    (let s : State := { ready with timebase := { clock with trim := -250, fraction := 249, withheld := 1 } }
     let rises := (s.timebase.fraction + (1000000 + s.timebase.trim).toNat) / 1000000
     s.timebase.lawful ∧ rises < s.timebase.withheld) ∧
    (let b : Timebase := { clock with correction := 5, slewDue := 200000 }
     0 < b.correction ∧ b.slewDue ≤ ready.elapsed ∧ ready.elapsed < b.slewDue + 1) ∧
    (({ clock with correction := -5 } : Timebase).correction < 0 ∧ clock.correction = 0) ∧
    (({ clock with refAge := some 21600000 } : Timebase).refAge = some 21600000 ∧ clock.status = .locked ∧
      21599999 < 21600000 ∧ State.reset.timebase.status ≠ .locked) ∧
    ({ clock with lastKnownDue := 200000 } : Timebase).lastKnownDue ≤ ready.elapsed ∧ ready.elapsed < clock.lastKnownDue ∧
    (150 = operatingDay ready.profile.rollover ready.timebase.time ∧ ready.timebase.status ≠ .unset ∧
      150 ≠ ({ clock with currentDay := 149 } : Timebase).currentDay ∧ 150 = ready.timebase.currentDay) := by decide +kernel

theorem witness_StationTimeNeverDecreases :
    (∃ t, exec .slewTick ready = .next t) ∧ ready.timebase.time ≤ 2 ^ 40 - 1 ∧
    (∃ t, exec (.timeReference (.station 0) 1 (beBytes 5 1 ++ [0])) ready = .next t) ∧
    (beBytes 5 1 ++ [(0 : Byte)]).getD 5 0 ≠ 1 := ⟨⟨_, rfl⟩, by decide +kernel, ⟨_, rfl⟩, by decide +kernel⟩

theorem witness_TimebaseAndProfileStayInRange :
    (queued .runningOfStationTime busy).timebase.lawful ∧ (queued .runningOfStationTime busy).profile.lawful ∧
    ∃ t, step (queued .runningOfStationTime busy) = .next t := ⟨by decide +kernel, by decide +kernel, _, rfl⟩

/-! ### Profile, unit reads and notices -/

theorem witness_ConfigureStoresOrRefuses :
    (Open ready (.station 0) ∧ configureBody [6, 0, 0x17] = none ∧ configureBody [] = none) ∧
    (let x : ConfigItem := { field := .pulse, value := 6000 }
     let y : ConfigItem := { field := .lanesEnabled, value := 4 }
     let s := (ready.setLane 4 (laneIn .self [])).setLane 5 (laneIn .attended [])
     configureBody [6, 0, 0x17, 0x70, 1, 0, 4] = some [x, y] ∧ [x, y] = [x] ++ y :: [] ∧
      (∀ z ∈ [x], ∀ j, concerns s.profile z j = true → (s.lane j).current = .shut) ∧ concerns s.profile y 4 = true ∧
      (s.lane 4).current ≠ .shut ∧ (∀ j : LaneId, j < 4 → concerns s.profile y j = true → (s.lane j).current = .shut) ∧
      ∀ z ∈ [x, y], ∀ k, concerns ready.profile z k = true → (ready.lane k).current = .shut) ∧
    (let t := after (.configure (.station 0) 1 [8, 0, 30]) (logged 95 ready)
     t.profile.intervalMinutes ≠ ready.profile.intervalMinutes ∧ (logged 95 ready).count.log.length < 96 ∧
      96 ≤ (logged 96 ready).count.log.length) ∧
    (let t := after (.configure (.station 0) 1 [9, 0, 0, 245]) ready
     t.profile.rollover ≠ ready.profile.rollover ∧ ready.timebase.status ≠ .unset ∧
      operatingDay t.profile.rollover ready.timebase.time ≠ ready.timebase.currentDay) ∧
    (let x : ConfigItem := { field := .trim, value := -32768 }
     let y : ConfigItem := { field := .lift 5, value := 255 }
     [x, y].map ConfigItem.field = [.trim, .lift 5] ∧ ([x, y].map ConfigItem.field).Nodup ∧ -32768 ≤ x.value ∧ x.value ≤ 32767 ∧
      0 ≤ y.value ∧ y.value < 256 ^ 1 ∧ configureBody [0x0C, 0, 0x80, 0, 2, 5, 255] = some [x, y]) ∧
    (let f : Profile := { Profile.default with passTimeout := 5 }
     f.passTimeout * 1000 < ({ f with pulse := 5001 } : Profile).pulse ∧ ({ f with pulse := 5000 } : Profile).pulse ≤ f.passTimeout * 1000) ∧
    (let t := after (.configure (.station 0) 1 [1, 0, 4]) ready
     (4 : LaneId).val < ready.profile.lanesEnabled ∧ ¬ (4 : LaneId).val < t.profile.lanesEnabled ∧
      (3 : LaneId).val < t.profile.lanesEnabled) ∧
    (let s : State := { ready with profile := { ready.profile with lanesEnabled := 4 } }
     let t := after (.configure (.station 0) 1 [1, 0, 255]) s
     Open s (.station 0) ∧ ¬ (5 : LaneId).val < s.profile.lanesEnabled ∧ (5 : LaneId).val < t.profile.lanesEnabled) :=
  by decide +kernel

theorem witness_UnitReadsChangeNothing :
    Open ready (.lane 2) ∧ (3 : Byte).toNat ≠ (2 : LaneId).val ∧ Open ready (.station 1) ∧
    (let log := (logged 3 ready).count.log
     log = [] ++ (log.take 2 ++ log.drop 2) ∧ log.drop 2 ≠ [] ∧ (log.take 2).length = 2) := by decide +kernel

theorem witness_MalformedUnitBodiesAreBadArgument :
    Open ready (.station 0) ∧ ([] : List Byte).length ≠ 1 ∧ 6 ≤ (([6] : List Byte).getD 0 0).toNat ∧
    ([2] : List Byte).length ≠ 2 ∧ ([2, 4] : List Byte) = [BitVec.ofNat 8 (2 : LaneId).val, 4] ∧ 4 ≤ (4 : Byte).toNat ∧ (([2, 3] : List Byte).getD 1 0).toNat ≠ 0 ∧
    (([2, 2] : List Byte).getD 1 0).toNat ≠ 1 ∧ (([2, 1] : List Byte).getD 1 0).toNat ≠ 2 ∧ Open ready (.lane 5) ∧
    ([0, 0, 0] : List Byte).length ≠ 4 ∧ ([0, 0, 0, 0, 0] : List Byte).length ≠ 6 ∧
    2 ≤ (([0, 0, 0, 0, 0, 2] : List Byte).getD 5 0).toNat ∧ ([0] : List Byte) ≠ [] := by decide +kernel

/-- The device with these posts in flight. -/
def posting (ds : List NoticeDetail) (s : State) : State := { s with postsInFlight := ds }

theorem witness_NoticesArePostedAndTaken :
    (let first : NoticeDetail := .sensorHealth 2 .failed 196
     let second : NoticeDetail := .laneState 2 .attended .self (some .sensorFailed) true true false
     (posting [first, second] busy).postsInFlight = [first] ++ second :: [] ∧
      (∃ q ∈ [first], noticeSource q = noticeSource second) ∧ (∀ q ∈ [first], q ≠ second) ∧
      NoticeDetail.dayRollover 151 ∉ (posting [first, second] busy).postsInFlight ∧
      (posting [second, .dayRollover 151, first] busy).postsInFlight = [second] ++ .dayRollover 151 :: [first] ∧
      ∀ q ∈ [second], noticeSource q ≠ noticeSource (.dayRollover 151)) ∧
    ((busy.noticePort 0).lawful ∧ maskIncludes (busy.noticePort 0).mask (.dayRollover 151) = true ∧
      (busy.noticePort 0).queue = [] ++ { detail := .dayRollover 150, first := 1, latest := 1, count := 255 } :: [] ∧
      noticeKey (.dayRollover 150) = noticeKey (.dayRollover 151) ∧
      ∀ n ∈ (busy.noticePort 0).queue, noticeKey n.detail ≠ noticeKey (.logFull 96)) ∧
    (let n : NoticePort := { queue := [], mask := 0x03FE }
     n.lawful ∧ maskIncludes n.mask (.laneState 2 .self .self none false false false) = false) ∧
    Open busy (.station 0) ∧ 1023 < 1024 ∧ 1024 ≤ 1024 ∧ 65535 < 65536 := by decide +kernel

theorem witness_NoticeQueuesStayDistinct :
    NoticeLaw (queued (.noticePost (.dayRollover 151)) (posting [.dayRollover 151] busy)) ∧ (busy.noticePort 0).lawful ∧
    ∃ t, step (queued (.noticePost (.dayRollover 151)) (posting [.dayRollover 151] busy)) = .next t :=
  ⟨by decide +kernel, by decide +kernel, _, rfl⟩

end Sys2Proof.Tests
end

section
/-! PROOF. An ADMITTED outcome: what the record's verdict says of the day, how the used-day list and rides today take it, and
the admission at a lane in OBSERVE (R43, R46, R48). -/

namespace Sys2Proof.Machine

/-! ## The used-day list and rides today -/

/-- Inserting a day adds that entry and no other. -/
theorem insertDay_perm (u : UsedDay) (used : List UsedDay) : (u :: used).Perm (insertDay u used) := by
  induction used with
  | nil => exact .refl _
  | cons v rest ih =>
    rw [insertDay]
    split
    · exact .refl _
    · exact (List.Perm.swap v u rest).trans (ih.cons v)

/-- A day new to a list in day order is inserted at its place (R4). -/
theorem insertDay_pairwise_day {u : UsedDay} {used : List UsedDay} (hs : used.Pairwise (fun x y => x.day < y.day))
    (hne : ∀ v ∈ used, v.day ≠ u.day) : (insertDay u used).Pairwise (fun x y => x.day < y.day) := by
  induction used with
  | nil => simp [insertDay]
  | cons v rest ih =>
    obtain ⟨hv, hrest⟩ := List.pairwise_cons.mp hs
    obtain ⟨hvu, hne⟩ := List.forall_mem_cons.mp hne
    rw [insertDay]
    split
    case isTrue hlt =>
      exact List.pairwise_cons.mpr ⟨List.forall_mem_cons.mpr ⟨hlt, fun x hx => hlt.trans (hv x hx)⟩, hs⟩
    case isFalse hle =>
      refine List.pairwise_cons.mpr ⟨fun x hx => ?_, ih hrest hne⟩
      obtain rfl | hx := List.mem_cons.mp ((insertDay_perm u rest).mem_iff.mpr hx)
      · omega
      · exact hv x hx

/-- An admission in OBSERVE consumes a day as CONFIRMED if the list does not hold it (R46). -/
theorem useDaySettled_of_not_used {used : List UsedDay} {day : Nat} (h : (dayState used day).isSome = false) :
    useDaySettled used day = insertDay { day := day, state := .confirmed } used := by
  rw [Option.isSome_eq_false_iff, Option.isNone_iff_eq_none] at h
  simp [useDaySettled, h]

/-- An admission in OBSERVE leaves a list that holds the day, in either state, as it is (R46). -/
theorem useDaySettled_of_used {used : List UsedDay} {day : Nat} (h : (dayState used day).isSome = true) :
    useDaySettled used day = used := by
  obtain ⟨st, h⟩ := Option.isSome_iff_exists.mp h
  simp [useDaySettled, h]

/-- Rides today after an admission are of its day (R8, R43). -/
theorem rideOn_eq (rides : Option RidesToday) (day : Nat) :
    rideOn rides day = { day := day, count := (rideOn rides day).count } := by
  cases rides with
  | none => rfl
  | some rt => rw [rideOn]; split <;> rfl

@[simp] theorem rideOn_day (rides : Option RidesToday) (day : Nat) : (rideOn rides day).day = day :=
  congrArg RidesToday.day (rideOn_eq rides day)

@[simp] theorem rideOn_none_count (day : Nat) : (rideOn none day).count = 1 := rfl

/-- A further ride of the day counts up to 255; the first of another day counts 1 (R8, R43). -/
@[simp] theorem rideOn_some_count (rt : RidesToday) (day : Nat) :
    (rideOn (some rt) day).count = if rt.day = day then min 255 (rt.count + 1) else 1 := by
  rw [rideOn]; split <;> rfl

/-! ## The verdict -/

/-- A re-ride is of a day that the used-day list holds (R41). -/
theorem dayState_isSome_of_reride {c : AdmitCtx} {r : PassRecord} (h : verdict c (some r) = .reride) :
    (dayState r.usage.used c.day).isSome = true := by
  rw [verdict] at h
  split_ifs at h with hblocked hearly hlate hzone hhours hpassback hused
  exact hused

/-- A day is consumed only if the used-day list does not hold it (R42). -/
theorem dayState_isSome_of_consume {c : AdmitCtx} {r : PassRecord} (h : verdict c (some r) = .consume) :
    (dayState r.usage.used c.day).isSome = false := by
  rw [verdict] at h
  split_ifs at h with hblocked hearly hlate hzone hhours hpassback hused
  exact Bool.eq_false_iff.mpr hused

/-! ## The admission at a lane in OBSERVE -/

/-- The usage part after an admission in OBSERVE, by whether the day is consumed (R46). -/
theorem Usage.admitSettled_of_admitted {c : AdmitCtx} {r : PassRecord} {consumed : Bool}
    (h : verdict c (some r) = if consumed then .consume else .reride) :
    r.usage.admitSettled c =
      { r.usage with
        stamp := some { time := c.time, lift := c.lift }
        rides := some { day := c.day, count := (rideOn r.usage.rides c.day).count }
        used := if consumed then insertDay { day := c.day, state := .confirmed } r.usage.used else r.usage.used } := by
  cases consumed with
  | false => simp [Usage.admitSettled, AdmitCtx.stamp, useDaySettled_of_used (dayState_isSome_of_reride h), ← rideOn_eq]
  | true => simp [Usage.admitSettled, AdmitCtx.stamp, useDaySettled_of_not_used (dayState_isSome_of_consume h), ← rideOn_eq]

/-- The rides today that the response reports are those the admission wrote (R48). -/
@[simp] theorem ridesFor_admitSettled (u : Usage) (c : AdmitCtx) :
    ridesFor (u.admitSettled c) c.day = (rideOn u.rides c.day).count := by
  simp [ridesFor, Usage.admitSettled]

/-- An ADMIT that reaches the record's verdict and is admitted by it takes the admission's effects, at any lane that is not
SHUT and has room in its list (R35). -/
theorem serveAdmitLane_admitted {s : State} {k : LaneId} {serial : Nat} {r : PassRecord} {consumed : Bool}
    (hshut : (s.lane k).current ≠ .shut)
    (hroom : ¬ (((s.lane k).current = .self ∨ (s.lane k).current = .attended) ∧
      Config.inFlightMax ≤ (s.lane k).inflight.length))
    (hrec : s.record serial = some r) (h : verdict (s.admitCtx k) (some r) = if consumed then .consume else .reride) :
    serveAdmitLane s k serial = admitAt s k (s.admitCtx k) r consumed := by
  simp only [serveAdmitLane, hrec]
  rw [if_neg hshut, if_neg hroom, h]
  cases consumed <;> rfl

/-- The admission at a lane in OBSERVE writes the record and nothing else (R46). -/
theorem admitAt_observe {s : State} {k : LaneId} (c : AdmitCtx) (r : PassRecord) (consumed : Bool)
    (hobs : (s.lane k).current = .observe) :
    admitAt s k c r consumed =
      { state := s.setRecord r.ent.serial (fun q => q.withUsage (r.usage.admitSettled c))
        code := .admitted
        body := admitBytes r.ent.serial consumed .none c.day (r.withUsage (r.usage.admitSettled c)) } := by
  simp [admitAt, hobs]

/-- Settles O23: the verdict fixes what becomes of the day, and the lane in OBSERVE takes no entry. -/
theorem observeAdmissionSettlesTheDay : Obligations.ObserveAdmissionSettlesTheDay := by
  refine ⟨fun u used hs hne => ⟨insertDay_pairwise_day hs hne, insertDay_perm u used⟩, ?_⟩
  intro s k serial r consumed d count u hobs hrec hv
  have hcount : count = (rideOn r.usage.rides d).count := by
    unfold count
    cases r.usage.rides <;> simp
  have hu : u = r.usage.admitSettled (s.admitCtx k) := by
    rw [Usage.admitSettled_of_admitted hv]
    unfold u
    rw [hcount]
    rfl
  obtain ⟨-, -, rfl⟩ := findRecord_some hrec
  have hserved : serveAdmitLane s k r.ent.serial = admitAt s k (s.admitCtx k) r consumed :=
    serveAdmitLane_admitted (by simp [hobs]) (by simp [hobs]) hrec hv
  have hrides : ridesFor u d = count := by
    rw [hu, hcount]
    exact ridesFor_admitSettled r.usage (s.admitCtx k)
  rw [← hrides, hu]
  simp only [serveOp, serveAdmit, hserved, admitAt_observe _ _ _ hobs]
  rfl

end Sys2Proof.Machine
end

section
/-! PROOF. Rotations at a lane: what the score's fall posts, what the sequencer makes of the edge that ends a rotation, and the
reverse rotation (R74, R77, R80, R81). -/

namespace Sys2Proof.Machine

/-! ## The score -/

/-- FAILED is the band from 192 up (R81). -/
theorem bandOf_eq_failed_iff (n : Nat) : bandOf n = .failed ↔ 192 ≤ n := by
  unfold bandOf Config.suspectFrom Config.failedFrom
  split
  case isTrue hsound => simpa using (by omega : n < 192)
  case isFalse hsound =>
    split
    case isTrue hsuspect => simpa using hsuspect
    case isFalse hfailed => simpa using hfailed

/-- A falling score does not enter FAILED: in it after the fall, it was in it before (R80, R81). -/
theorem bandOf_ne_failed_of_fall {n : Nat} (h : bandOf n ≠ bandOf (n - 1)) : bandOf (n - 1) ≠ .failed := by
  intro hfailed
  have hn : bandOf n = .failed := by
    rw [bandOf_eq_failed_iff] at hfailed ⊢
    omega
  exact h (hn.trans hfailed.symm)

/-- The fall of the score posts a change of its band and raises no error cause, so of the lane only the score changes
(R80, R81). -/
theorem lowerScore_eq (c : LaneCtx) (l : Lane) :
    lowerScore c l =
      { lane := { l with score := l.score - 1 }
        posts :=
          if bandOf (l.score - 1) = bandOf l.score then []
          else [.sensorHealth c.k (bandOf (l.score - 1)) (l.score - 1)] } := by
  unfold lowerScore setScore
  by_cases hband : bandOf l.score = bandOf (l.score - 1)
  · rw [if_pos hband, if_pos hband.symm]
  · rw [if_neg hband, if_neg (Ne.symm hband), if_neg (bandOf_ne_failed_of_fall hband)]

/-! ## The sequencer -/

/-- A window of 3,000 ms is still open at its last instant (R74, log entry 10, DEDUCED). -/
theorem windowOver_bSeen {m elapsed : Nat} (h : elapsed ≤ m + 3000) : windowOver (.bSeen m) elapsed = .bSeen m :=
  if_neg (Nat.not_lt.mpr h)

/-- A from 20 ms to 3,000 ms after B is a reverse rotation, and the sequencer is IDLE after it (R74). -/
theorem sequence_bSeen_a {m elapsed : Nat} (hlo : m + 20 ≤ elapsed) (hhi : elapsed ≤ m + 3000) :
    sequence (.bSeen m) .a elapsed = (.idle, .reverse) := by
  have hplausible : ¬ elapsed < m + Config.coincidence := Nat.not_lt.mpr hlo
  simp only [sequence, windowOver_bSeen hhi, if_neg hplausible]

/-! ## The reverse rotation -/

/-- The rising edge that ends a reverse rotation: the edge is stamped, the score falls, and the rotation is counted with the
mark of the score as it fell (R73, R77, R79). -/
theorem risingEdge_of_reverse {c : LaneCtx} {l : Lane} {x : ArmSensor} {q : Sequencer}
    (h : sequence l.sequencer x c.elapsed = (q, .reverse)) :
    risingEdge c l x =
      (lowerScore c
        { l.setSensor x
            { l.sensor x with
              level := true, lastRise := c.time, stuck := some { mark := c.elapsed, counted := false } } with
          sequencer := q }).andThen (pairReverse c) := by
  simp only [risingEdge, h]

/-- A lane that takes edges leaves a rising edge as its lane unit says (R73). -/
theorem exec_sensorRisingEdge_of_takesEdges {s : State} {k : LaneId} (x : ArmSensor) (h : s.takesEdges k = true) :
    exec (.sensorRisingEdge k x) s = .next (s.applyLane k (risingEdge (s.laneCtx k) (s.lane k) x)) :=
  congrArg Host.Outcome.next (if_pos h)

/-- Settles O45: the edge is a reverse rotation whatever the lane's state, and neither the fall of the score nor the count
looks at the list, the output or the state. -/
theorem reverseRotationsOnlyCount : Obligations.ReverseRotationsOnlyCount := by
  intro s k m hedges hseq hlo hhi l n
  have hrot : sequence l.sequencer .a (s.laneCtx k).elapsed = (.idle, .reverse) := by
    rw [hseq]
    exact sequence_bSeen_a hlo hhi
  rw [exec_sensorRisingEdge_of_takesEdges .a hedges, risingEdge_of_reverse hrot, lowerScore_eq]
  simp only [LaneOut.andThen, pairReverse, List.append_nil, List.nil_append]
  rfl

end Sys2Proof.Machine
end

section
/-! PROOF. The stages of the refund arithmetic (R106 to R111), and what an amount of 0 is to a quote and to a commit (R112,
R113). -/

namespace Sys2Proof.Machine

/-! ## Stage 1: the refundable days -/

/-- The used-day list has a state for exactly the days it holds (R4). -/
theorem dayState_isSome_iff {used : List UsedDay} {day : Nat} :
    (dayState used day).isSome = true ↔ ∃ u ∈ used, u.day = day := by
  simp [dayState]

theorem usableDays_of_early {r : PassRecord} {d : Nat} (h : d < r.ent.firstDay) : usableDays r d = r.ent.window :=
  if_pos h

theorem usableDays_of_expired {r : PassRecord} {d : Nat} (hfirst : r.ent.firstDay ≤ d) (hlast : r.ent.lastDay < d) :
    usableDays r d = 0 := by
  rw [usableDays, if_neg hfirst.not_gt, if_pos hlast]

/-- Within the window, today still counts as a day ahead only if it has not been ridden (R106). -/
theorem usableDays_of_valid {r : PassRecord} {d : Nat} (hfirst : r.ent.firstDay ≤ d) (hlast : d ≤ r.ent.lastDay) :
    usableDays r d =
      if (dayState r.usage.used d).isSome then r.ent.lastDay - d else r.ent.lastDay - d + 1 := by
  rw [usableDays, if_neg hfirst.not_gt, if_neg hlast.not_gt]

theorem refundableDays_of_lapsed {c : TariffClass} (r : PassRecord) (d : Nat) (h : c.lapsed = true) :
    refundableDays c r d = r.remaining :=
  if_pos h

theorem refundableDays_of_not_lapsed {c : TariffClass} (r : PassRecord) (d : Nat) (h : c.lapsed = false) :
    refundableDays c r d = min r.remaining (usableDays r d) :=
  if_neg (Bool.eq_false_iff.mp h)

theorem refundableDays_le_remaining (c : TariffClass) (r : PassRecord) (d : Nat) : refundableDays c r d ≤ r.remaining := by
  rw [refundableDays]
  split
  case isTrue => exact le_rfl
  case isFalse => exact min_le_left _ _

/-! ## Stage 3: the gross -/

@[simp] theorem TariffClass.price_zero (c : TariffClass) : c.price 0 = 0 := rfl

@[simp] theorem TariffClass.price_succ (c : TariffClass) (i : Fin 14) : c.price (i.val + 1) = c.prices[i.val] := by
  simp [TariffClass.price]

/-- The gross in signed arithmetic: what was paid and not paid back, less the price of the pass kept, at least 0 (R108). -/
theorem grossRefund_eq_max (c : TariffClass) (r : PassRecord) (j : Nat) :
    (grossRefund c r j : Int) =
      max 0 ((r.ent.paid : Int) - r.usage.refundedTotal - c.price (r.ent.rideDays - r.usage.refundedDays - j)) := by
  rw [grossRefund, Int.toNat_eq_max, max_comm]

/-! ## Stage 4: the fee -/

/-- Quotients by 1000 rounded up, as the fee takes them (R109). -/
theorem ceil_thousandth_spec (n : Nat) : n ≤ (n + 999) / 1000 * 1000 ∧ (n + 999) / 1000 * 1000 < n + 1000 := by
  omega

theorem feeMin_le_refundFee (c : TariffClass) (g : Nat) : c.feeMin ≤ refundFee c g := le_max_left _ _

/-- The fee covers the permille share (R109). -/
theorem share_le_refundFee (c : TariffClass) (g : Nat) : g * c.feePermille ≤ refundFee c g * 1000 :=
  (ceil_thousandth_spec _).1.trans (Nat.mul_le_mul_right 1000 (le_max_right _ _))

/-- A fee above fee_min is the share rounded up, so less than a whole minor unit above it (R109). -/
theorem refundFee_eq_feeMin_or (c : TariffClass) (g : Nat) :
    refundFee c g = c.feeMin ∨ refundFee c g * 1000 < g * c.feePermille + 1000 :=
  (max_choice c.feeMin ((g * c.feePermille + 999) / 1000)).imp_right fun h => by
    rw [refundFee, h]
    exact (ceil_thousandth_spec _).2

/-- A class without a fee (R109). -/
theorem refundFee_of_free {c : TariffClass} (g : Nat) (hshare : c.feePermille = 0) (hmin : c.feeMin = 0) :
    refundFee c g = 0 := by
  simp [refundFee, hshare, hmin]

/-! ## Stages 5 to 7: the net, the cap and the step -/

/-- The cap of a pass (R110). -/
def capOf (c : TariffClass) (r : PassRecord) : Nat := r.ent.paid * c.capPermille / 1000

/-- What the cap leaves and what was already paid out of it are together the cap (R110). -/
theorem capLeftOf_add_min (c : TariffClass) (r : PassRecord) :
    capLeftOf c r + min r.usage.refundedTotal (r.ent.paid * c.capPermille / 1000) = capOf c r := by
  rw [capLeftOf, capOf]
  omega

/-- The cap is the permille share of what was paid, rounded down (R110). -/
theorem capOf_spec (c : TariffClass) (r : PassRecord) :
    capOf c r * 1000 ≤ r.ent.paid * c.capPermille ∧ r.ent.paid * c.capPermille < (capOf c r + 1) * 1000 := by
  rw [capOf]
  omega

theorem capOf_of_whole {c : TariffClass} (r : PassRecord) (h : c.capPermille = 1000) : capOf c r = r.ent.paid := by
  rw [capOf, h, Nat.mul_div_cancel _ (by decide)]

theorem capLeftOf_of_zero {c : TariffClass} (r : PassRecord) (h : c.capPermille = 0) : capLeftOf c r = 0 := by
  simp [capLeftOf, h]

theorem capLeftOf_of_exhausted {c : TariffClass} {r : PassRecord} (h : capOf c r ≤ r.usage.refundedTotal) :
    capLeftOf c r = 0 :=
  Nat.sub_eq_zero_of_le h

/-- The net refund: the gross less the fee, at least 0, and no more than the cap leaves (R110). -/
def Figures.net (f : Figures) : Nat := min (f.gross - f.fee) f.capLeft

/-- The amount is the net rounded down to the step (R111). -/
theorem figuresFor_amount (c : TariffClass) (r : PassRecord) (j : Nat) :
    (figuresFor c r j).amount = (figuresFor c r j).net - (figuresFor c r j).net % c.step := rfl

theorem amount_le_net (c : TariffClass) (r : PassRecord) (j : Nat) :
    (figuresFor c r j).amount ≤ (figuresFor c r j).net := Nat.sub_le _ _

/-- The amount is a multiple of the step (R111). -/
theorem amount_mod_step (c : TariffClass) (r : PassRecord) (j : Nat) : (figuresFor c r j).amount % c.step = 0 := by
  rw [figuresFor_amount]
  exact Nat.sub_mod_eq_zero_of_mod_eq (Nat.mod_mod _ _).symm

/-- Less than one step is lost to the rounding (R111). -/
theorem net_lt_amount_add_step {c : TariffClass} (r : PassRecord) (j : Nat) (h : 1 ≤ c.step) :
    (figuresFor c r j).net < (figuresFor c r j).amount + c.step := by
  have hrest : (figuresFor c r j).net % c.step < c.step := Nat.mod_lt _ h
  rw [figuresFor_amount]
  omega

/-- A step of one minor unit rounds nothing (R111). -/
theorem amount_of_step_one {c : TariffClass} (r : PassRecord) (j : Nat) (h : c.step = 1) :
    (figuresFor c r j).amount = (figuresFor c r j).net := by
  rw [figuresFor_amount, h, Nat.mod_one, Nat.sub_zero]

/-! ## Quotes and commits -/

/-- The checks that quote and commit share let a request through that none of them refuses (R112, R113). -/
theorem refundChecks_of_passed {s : State} {serial : Nat} {r : PassRecord} (hrec : s.record serial = some r)
    (hblocked : r.ent.blocked = false) (hlocked : s.refund.locked = true) (hpresent : (s.tariffOf r.ent.classNo).present = true)
    (hdays : 0 < refundableDays (s.tariffOf r.ent.classNo) r s.opDay) :
    refundChecks s serial =
      .inr (r, s.tariffOf r.ent.classNo, refundableDays (s.tariffOf r.ent.classNo) r s.opDay) := by
  simp [refundChecks, hrec, hblocked, hlocked, hpresent, hdays.ne']

/-- A quote that passes the checks is OK whatever its figures (R112). -/
theorem serveQuote_code_of_passed {s : State} {serial k : Nat} {r : PassRecord} {c : TariffClass} (asked : Nat)
    (h : refundChecks s serial = .inr (r, c, k)) : (serveQuote s serial asked).code = .ok := by
  simp only [serveQuote, h]

/-- A commit that passes the checks with a free journal place, days within k and the right expected amount, is ZERO_REFUND if
that amount is 0 (R113). -/
theorem serveCommit_code_of_zero {s : State} {p : Port} {serial days k : Nat} {r : PassRecord} {c : TariffClass}
    (h : refundChecks s serial = .inr (r, c, k)) (hfree : s.refund.journal.length < 512) (hdays : days ≤ k)
    (hzero : (figuresFor c r days).amount = 0) : (serveCommit s p serial days 0).code = .zeroRefund := by
  have hfree' : ¬ Config.journalMax ≤ s.refund.journal.length := hfree.not_ge
  simp [serveCommit, h, hfree', hzero, hdays, hdays.not_gt]

/-! ## The obligation -/

/-- Stage 1 in full: the unused days, or the smaller of those and the usable days ahead, by where the day lies (R106). -/
theorem refundableDays_spec (c : TariffClass) (r : PassRecord) (d : Nat) :
    refundableDays c r d ≤ r.remaining ∧ (c.lapsed = true → refundableDays c r d = r.remaining) ∧
    (c.lapsed = false →
      (d < r.ent.firstDay → refundableDays c r d = min r.remaining r.ent.window) ∧
      (r.ent.firstDay ≤ d → r.ent.lastDay < d → refundableDays c r d = 0) ∧
      (r.ent.firstDay ≤ d → d ≤ r.ent.lastDay →
        ((∃ u ∈ r.usage.used, u.day = d) → refundableDays c r d = min r.remaining (r.ent.lastDay - d)) ∧
        ((∀ u ∈ r.usage.used, u.day ≠ d) → refundableDays c r d = min r.remaining (r.ent.lastDay - d + 1)))) := by
  refine ⟨refundableDays_le_remaining c r d, refundableDays_of_lapsed r d, fun hlapsed => ?_⟩
  rw [refundableDays_of_not_lapsed r d hlapsed]
  refine ⟨fun hearly => ?early, fun hfirst hlast => ?expired,
    fun hfirst hlast => ⟨fun hused => ?ridden, fun hunused => ?unridden⟩⟩
  case early => rw [usableDays_of_early hearly]
  case expired => rw [usableDays_of_expired hfirst hlast, Nat.min_zero]
  case ridden => rw [usableDays_of_valid hfirst hlast, if_pos (dayState_isSome_iff.mpr hused)]
  case unridden =>
    have hnone : ¬ (dayState r.usage.used d).isSome = true := fun h =>
      have ⟨u, hu, hday⟩ := dayState_isSome_iff.mp h
      hunused u hu hday
    rw [usableDays_of_valid hfirst hlast, if_neg hnone]

/-- Settles O33, clause by clause: the stages, then the two requests. -/
theorem refundsFollowTheirStages : Obligations.RefundsFollowTheirStages := by
  refine ⟨refundableDays_spec, fun c g => ?fee, fun c r j => ?figures, ?requests⟩
  case fee =>
    refine ⟨feeMin_le_refundFee c g, share_le_refundFee c g, refundFee_eq_feeMin_or c g, fun hshare hmin => ?_,
      fun hshare hmin => ?_⟩
    · rw [refundFee_of_free g hshare hmin, Nat.sub_zero]
    · rw [refundFee, hshare]
      exact max_eq_right hmin
  case figures =>
    intro f m cap
    have hcap : cap = capOf c r := capLeftOf_add_min c r
    have hgross : (f.gross : Int) = max 0 ((r.ent.paid : Int) - r.usage.refundedTotal - c.price (m - j)) :=
      grossRefund_eq_max c r j
    have hamount : f.amount ≤ f.net := amount_le_net c r j
    rw [hcap]
    refine ⟨fun hall => ?_, fun i hkept => ?_, rfl, (capOf_spec c r).1, (capOf_spec c r).2, capOf_of_whole r, fun hzero => ?_,
      capLeftOf_of_exhausted, hamount.trans (min_le_right _ _), hamount.trans (min_le_left _ _),
      fun hstep => ⟨amount_mod_step c r j, net_lt_amount_add_step r j hstep⟩, amount_of_step_one r j⟩
    · rw [hgross, hall, Nat.sub_self, TariffClass.price_zero, Nat.cast_zero, sub_zero]
    · have hindex : m - j = i.val + 1 := by omega
      rw [hgross, hindex, TariffClass.price_succ]
    · have hnone : f.capLeft = 0 := capLeftOf_of_zero r hzero
      exact Nat.le_zero.mp (hnone ▸ hamount.trans (min_le_right _ _))
  case requests =>
    intro s p serial j r c k hrec hblocked hlocked hpresent hone hdays hfree hzero
    have hpassed : refundChecks s serial = .inr (r, c, k) :=
      refundChecks_of_passed hrec hblocked hlocked hpresent (hone.trans hdays)
    exact ⟨serveQuote_code_of_passed j hpassed, serveCommit_code_of_zero hpassed hfree hdays hzero⟩

end Sys2Proof.Machine
end

section
/-! PROOF. References at the timebase: the frame of a TIME REFERENCE, its case by offset and force mark, what the closing by a
step and the day comparison leave, and the references more than 2,000 ms behind (R143, R146, R147, R151). -/

namespace Sys2Proof.Machine

/-! ## The body of a TIME REFERENCE -/

@[simp] theorem beBytes_length (n v : Nat) : (beBytes n v).length = n := by
  induction n with
  | zero => rfl
  | succ n ih => simp [beBytes, ih]

/-- A leading byte counts for its place in the number that the bytes spell. -/
theorem ofBytes_cons (b : Byte) (bs : List Byte) : ofBytes (b :: bs) = b.toNat * 256 ^ bs.length + ofBytes bs := by
  have hfold (acc : Nat) : bs.foldl (fun a x => a * 256 + x.toNat) acc = acc * 256 ^ bs.length + ofBytes bs := by
    induction bs generalizing acc with
    | nil => simp [ofBytes]
    | cons x rest ih =>
      simp only [ofBytes, List.foldl_cons, List.length_cons] at ih ⊢
      rw [ih, ih (0 * 256 + x.toNat)]
      ring
  exact (hfold (0 * 256 + b.toNat)).trans (by rw [zero_mul, zero_add])

/-- `n` bytes spell the number they were made of, mod 256^n (R166). -/
theorem ofBytes_beBytes (n v : Nat) : ofBytes (beBytes n v) = v % 256 ^ n := by
  induction n with
  | zero => simp [beBytes, ofBytes, Nat.mod_one]
  | succ n ih =>
    rw [beBytes, ofBytes_cons, ih, beBytes_length, BitVec.toNat_ofNat, pow_succ 256 n, Nat.mod_mul, mul_comm, add_comm]

/-- A yes-or-no byte is read back as what it says (R166). -/
theorem boolOfByte_getD_boolByte (force : Bool) : boolOfByte ((boolByte force).getD 0 0) = some force := by
  cases force <;> rfl

/-- Five bytes of T_ref and the force mark are read back as those (R143). -/
theorem referenceBody_eq {tRef : Nat} (h : tRef < 2 ^ 40) (force : Bool) :
    referenceBody (beBytes 5 tRef ++ boolByte force) = some (tRef, force) := by
  have hfield : fieldAt 0 5 (beBytes 5 tRef ++ boolByte force) = tRef := by
    rw [fieldAt, List.drop_zero, List.take_left' (beBytes_length 5 tRef), ofBytes_beBytes]
    exact Nat.mod_eq_of_lt h
  have hforce : boolOfByte ((beBytes 5 tRef ++ boolByte force).getD 5 0) = some force := by
    rw [List.getD_append_right _ _ _ _ (beBytes_length 5 tRef).le, beBytes_length]
    exact boolOfByte_getD_boolByte force
  have hlength : (beBytes 5 tRef ++ boolByte force).length = 6 := by simp [boolByte]
  rw [referenceBody, if_pos hlength, hforce, hfield]
  rfl

/-- A reference at a free station port of a READY device is served by the timebase with its request pending, and the response
becomes ready there (R143, R148, R158). -/
theorem exec_timeReference_open {s : State} {i : StationId} {tag : Byte} {tRef : Nat} (hopen : Open s (.station i))
    (h : tRef < 2 ^ 40) (force : Bool) :
    let p : Port := .station i
    let s1 := s.setPort p ((s.port p).take (.reserved 0x58 tag))
    let e : Int := (tRef : Int) - s.timebase.time
    let cse := referenceCase s.timebase.status e force
    exec (.timeReference p tag (beBytes 5 tRef ++ boolByte force)) s =
      .next
        ((applyReference s1 tRef e cse).respond p (if cse = .refused then .timeBackward else .ok)
          (referenceBytes (caseCode cse) e (applyReference s1 tRef e cse))) := by
  have hpermitted : permitted .timeReference (.station i) = true := rfl
  refine congrArg Host.Outcome.next ((requestUnit_open .timeReference tag _ hopen hpermitted).trans ?_)
  simp only [serveReference, referenceBody_eq h, setPort_timebase]
  rfl

/-! ## The case of a reference far behind -/

/-- Far behind without the force mark, a reference is refused in every state (R147). -/
theorem referenceCase_unforced (status : TimebaseStatus) {e : Int} (h : e < -2000) :
    referenceCase status e false = .refused :=
  if_pos ⟨h, rfl⟩

/-- Far behind with the force mark, a reference sets the time in UNSET and steps it otherwise (R144, R147). -/
theorem referenceCase_forced (status : TimebaseStatus) {e : Int} (h : e < -2000) :
    referenceCase status e true = if status = .unset then .set else .forced := by
  have hfar : e < -Config.slewRange := h
  simp [referenceCase, hfar]

/-! ## The closing by a step, and the day comparison after it -/

@[simp] theorem closeInterval_timebase (s : State) (stop : Nat) (flag : IntervalFlags) (newStart heldAt : Nat) :
    (closeInterval s stop flag newStart heldAt).timebase = s.timebase := by
  simp only [closeInterval]
  split <;> rfl

@[simp] theorem closeInterval_refund (s : State) (stop : Nat) (flag : IntervalFlags) (newStart heldAt : Nat) :
    (closeInterval s stop flag newStart heldAt).refund = s.refund := by
  simp only [closeInterval]
  split <;> rfl

@[simp] theorem closeStepped_timebase (s : State) (before after : Nat) :
    (closeStepped s before after).timebase = s.timebase := closeInterval_timebase ..

@[simp] theorem closeStepped_refund (s : State) (before after : Nat) :
    (closeStepped s before after).refund = s.refund := closeInterval_refund ..

/-- With room in the log a step closes the open interval into a record with STEPPED (R92). -/
theorem closeStepped_log_of_room {s : State} (before after : Nat) (h : s.count.log.length < 96) :
    ∃ r, (closeStepped s before after).count.log = s.count.log ++ [r] ∧
      r.flags = { s.count.interval.gathered with stepped := true } := by
  obtain ⟨-, hcount⟩ | ⟨hfull, -⟩ := closeInterval_cases s before .ofStep
    (boundaryAtOrBefore s.profile.intervalMinutes s.profile.rollover after) after
  · refine ⟨_, congrArg CountUnit.log hcount, ?_⟩
    simp [Interval.close, IntervalFlags.union, IntervalFlags.ofStep]
  · exact absurd h hfull.not_gt

/-- On a full log a step leaves the interval open with STEPPED and EXTENDED (R91). -/
theorem closeStepped_gathered_of_full {s : State} (before after : Nat) (h : 96 ≤ s.count.log.length) :
    (closeStepped s before after).count.interval.gathered =
      { s.count.interval.gathered with stepped := true, extended := true } := by
  obtain ⟨hroom, -⟩ | ⟨-, hcount⟩ := closeInterval_cases s before .ofStep
    (boundaryAtOrBefore s.profile.intervalMinutes s.profile.rollover after) after
  · exact absurd hroom h.not_gt
  · rw [closeStepped, hcount]
    simp [IntervalFlags.union, IntervalFlags.ofStep, IntervalFlags.ofHeld]

@[simp] theorem settleDay_count (s : State) : (settleDay s).count = s.count := by
  unfold settleDay
  split <;> rfl

@[simp] theorem settleDay_time (s : State) : (settleDay s).timebase.time = s.timebase.time := by
  unfold settleDay
  split <;> rfl

/-- The day comparison leaves the tariff lock, or clears it with a day that differs (R104, R151). -/
theorem settleDay_locked (s : State) :
    (settleDay s).refund.locked = s.refund.locked ∨
      ((settleDay s).refund.locked = false ∧ (settleDay s).timebase.currentDay ≠ s.timebase.currentDay) := by
  unfold settleDay
  split
  case isTrue hdue =>
    rw [State.dayDue, Bool.and_eq_true, bne_iff_ne, bne_iff_ne] at hdue
    exact .inr ⟨rfl, hdue.2⟩
  case isFalse => exact .inl rfl

/-! ## A reference far behind with the force mark -/

/-- `t` is `s` with station time moved to `tRef` by a step: the open interval is closed STEPPED, or held with that mark on a full
log, and the tariff lock clears only with a changed day (R91, R92, R104, R146). -/
def SteppedTo (s : State) (tRef : Nat) (t : State) : Prop :=
  t.timebase.time = tRef ∧
  (s.count.log.length < 96 →
    ∃ r, t.count.log = s.count.log ++ [r] ∧ r.flags = { s.count.interval.gathered with stepped := true }) ∧
  (96 ≤ s.count.log.length →
    t.count.interval.gathered = { s.count.interval.gathered with stepped := true, extended := true }) ∧
  (t.refund.locked = s.refund.locked ∨
    (t.refund.locked = false ∧ t.timebase.currentDay ≠ s.timebase.currentDay))

/-- A step closes the interval and compares the day in a state whose timebase has been set to the reference and which is
otherwise the one before, but for posts (R144, R146). -/
theorem steppedTo_settleDay_closeStepped {s s1 : State} {tRef : Nat} (before : Nat)
    (htimebase : s1.timebase = (s.timebase.setTime tRef).accept) (hcount : s1.count = s.count)
    (hrefund : s1.refund = s.refund) : SteppedTo s tRef (settleDay (closeStepped s1 before tRef)) := by
  have htime : s1.timebase.time = tRef := by rw [htimebase]; rfl
  have hday : s1.timebase.currentDay = s.timebase.currentDay := by rw [htimebase]; rfl
  refine ⟨by simpa using htime, fun hroom => ?room, fun hfull => ?full, ?lock⟩
  case room =>
    rw [settleDay_count, ← hcount]
    exact closeStepped_log_of_room before tRef (hcount ▸ hroom)
  case full =>
    rw [settleDay_count, ← hcount]
    exact closeStepped_gathered_of_full before tRef (hcount ▸ hfull)
  case lock => simpa [hrefund, hday] using settleDay_locked (closeStepped s1 before tRef)

theorem steppedTo_stepReference (s : State) (tRef : Nat) : SteppedTo s tRef (stepReference s tRef) :=
  steppedTo_settleDay_closeStepped (s1 := { s with timebase := (s.timebase.setTime tRef).accept }) _ rfl rfl rfl

/-- A reference that is not a small offset behind sets the time in UNSET (R144). -/
theorem steppedTo_setReference (s : State) (tRef : Nat) {e : Int} (h : e < -2000) :
    SteppedTo s tRef (setReference s tRef e) := by
  have hfar : ¬ (-Config.slewRange ≤ e ∧ e < 0) := fun hsmall => hsmall.1.not_gt h
  have hset : setReference s tRef e =
      settleDay
        (closeStepped ({ s with timebase := (s.timebase.setTime tRef).accept }.post (.timebase .locked true))
          s.timebase.time tRef) := by
    simp only [setReference, if_neg hfar, post_timebase]
    rfl
  rw [hset]
  exact steppedTo_settleDay_closeStepped _ rfl rfl rfl

/-- Far behind with the force mark, a reference is a step in every state of the timebase (R144, R147). -/
theorem steppedTo_applyReference_forced (s : State) (tRef : Nat) (status : TimebaseStatus) {e : Int} (h : e < -2000) :
    SteppedTo s tRef (applyReference s tRef e (referenceCase status e true)) := by
  rw [referenceCase_forced status h]
  by_cases hunset : status = .unset
  · rw [if_pos hunset]
    exact steppedTo_setReference s tRef h
  · rw [if_neg hunset]
    exact steppedTo_stepReference s tRef

/-- What a port holds is no part of a step of station time. -/
@[simp] theorem steppedTo_setPort {s t : State} {tRef : Nat} (p : Port) (ps : PortState) :
    SteppedTo (s.setPort p ps) tRef t ↔ SteppedTo s tRef t := by
  simp [SteppedTo]

@[simp] theorem steppedTo_respond {s t : State} {tRef : Nat} (p : Port) (code : Code) (body : List Byte) :
    SteppedTo s tRef (t.respond p code body) ↔ SteppedTo s tRef t := by
  simp [SteppedTo]

/-! ## The obligation -/

/-- A port is no part of what a TIME REFERENCE reports (R148). -/
theorem referenceBytes_setPort (cse : Nat) (e : Int) (s : State) (p : Port) (ps : PortState) :
    referenceBytes cse e (s.setPort p ps) = referenceBytes cse e s := by
  cases p <;> rfl

/-- Settles O51: without the force mark the case is the refusal, which leaves the state to the response; with it the case is a
step, whatever the timebase's state. -/
theorem timeNeverGoesBackUnforced : Obligations.TimeNeverGoesBackUnforced := by
  intro s i tag tRef hopen href hbehind
  have hfar : (tRef : Int) - s.timebase.time < -2000 := by omega
  refine ⟨?unforced, _, exec_timeReference_open hopen href true, ?forced⟩
  case unforced =>
    have hexec := exec_timeReference_open (tag := tag) hopen href false
    simp only [referenceCase_unforced _ hfar, applyReference, if_true, referenceBytes_setPort,
      respond_reserved _ _ _ _ hopen.2] at hexec
    exact hexec
  case forced =>
    exact (steppedTo_respond ..).mpr ((steppedTo_setPort ..).mp (steppedTo_applyReference_forced _ tRef _ hfar))

end Sys2Proof.Machine
end

section
/-! PROOF. The attention lines: what readies a first position, what asserts a line, and what a device reset leaves of the
response positions and the notice queues that the lines follow (R161, R163, R171). -/

namespace Sys2Proof.Machine

/-! ## The first position -/

/-- A port without responses has no ready first position. -/
theorem firstReady_of_nil {ps : PortState} (h : ps.positions = []) : ps.firstReady = false := by
  rw [PortState.firstReady, h]

/-- A pending request's position stands before every response behind it (R160, R161). -/
theorem firstReady_of_reserved {ps : PortState} {kind tag : Byte} {rest : List Position}
    (h : ps.positions = .reserved kind tag :: rest) : ps.firstReady = false := by
  rw [PortState.firstReady, h]

/-! ## The lines -/

theorem attention_lane (s : State) (k : LaneId) : s.attention (.lane k) = (s.port (.lane k)).firstReady :=
  Bool.or_false _

theorem attention_station (s : State) (i : StationId) :
    s.attention (.station i) = true ↔ (s.port (.station i)).firstReady = true ∨ (s.noticePort i).queue ≠ [] := by
  simp [State.attention]

/-- A port without responses, and of a station port without notices, has its line deasserted. -/
theorem attention_eq_false {s : State} {p : Port} (hport : (s.port p).positions = [])
    (hnotices : ∀ i, (s.noticePort i).queue = []) : s.attention p = false := by
  have hfirst := firstReady_of_nil hport
  cases p with
  | lane k => rw [attention_lane, hfirst]
  | station i =>
    rw [Bool.eq_false_iff, ne_eq, attention_station, hfirst, hnotices i]
    simp

/-! ## A device reset -/

@[simp] theorem closeInterval_port (s : State) (stop : Nat) (flag : IntervalFlags) (newStart heldAt : Nat) (p : Port) :
    (closeInterval s stop flag newStart heldAt).port p = s.port p := by
  simp only [closeInterval]
  split <;> cases p <;> rfl

@[simp] theorem closeInterval_noticePort (s : State) (stop : Nat) (flag : IntervalFlags) (newStart heldAt : Nat)
    (i : StationId) : (closeInterval s stop flag newStart heldAt).noticePort i = s.noticePort i := by
  simp only [closeInterval]
  split <;> rfl

/-- A device reset resets each port by what it held; the start-up's closing of the open interval leaves the ports (R163). -/
theorem deviceReset_port (s : State) (p : Port) : (deviceReset s).port p = (s.port p).deviceReset := by
  have hclose : (deviceReset s).port p = (resetBlocks s).port p := closeInterval_port ..
  rw [hclose]
  cases p <;> simp [resetBlocks, State.port]

/-- The start-up's closing posts its notice, and no queue holds it before the notice unit has taken it (R171, R176, log
entry 7). -/
theorem deviceReset_noticePort (s : State) (i : StationId) : (deviceReset s).noticePort i = NoticePort.reset := by
  have hclose : (deviceReset s).noticePort i = (resetBlocks s).noticePort i := closeInterval_noticePort ..
  rw [hclose]
  simp [resetBlocks, State.noticePort]

theorem deviceReset_attention (s : State) (p : Port) : (deviceReset s).attention p = false :=
  attention_eq_false (congrArg PortState.positions (deviceReset_port s p))
    fun i => congrArg NoticePort.queue (deviceReset_noticePort s i)

/-! ## The obligation -/

/-- Settles O9: the lines by their definition, and a device reset through the positions and queues that it empties. -/
theorem attentionLinesFollowPositionsAndNotices : Obligations.AttentionLinesFollowPositionsAndNotices := by
  refine ⟨attention_lane, attention_station, fun _ _ _ _ => firstReady_of_reserved, ?afterReset⟩
  intro s t p hexec
  obtain rfl : deviceReset s = t := Host.Outcome.next.inj hexec
  exact deviceReset_attention s p

end Sys2Proof.Machine
end

section
/-! PROOF. What a command can do. Every command is a chain of moves: effects of one block (`Effect`), and what the ports, the
engine's taking of requests, a page write and a device reset add to them (`Move`). An invariant is kept by every command when it
is kept by each of these. -/

namespace Sys2Proof.Machine

open Relation (ReflTransGen)

/-! ## The relations -/

/-- What an event of lane `k` can leave of the lane. -/
inductive LaneStep (c : Instr) (s : State) (k : LaneId) : LaneOut → Prop
  | command (target : LaneState) (hc : ∃ p tag body, c = .laneState p tag body) (hready : s.phase = .ready)
      (hok : laneStateCheck (decide (k.val < s.profile.lanesEnabled)) s.timebase.status (s.lane k) target = .ok) :
      LaneStep c s k (commandState (s.laneCtx k) (s.lane k) target)
  | ack : LaneStep c s k (ackLane (s.laneCtx k) (s.lane k))
  | go (e : Entry) (h : waitingHead (s.lane k) = some e) :
      LaneStep c s k { lane := releaseHead (s.laneCtx k) (s.lane k) }
  | deny (e : Entry) (h : waitingHead (s.lane k) = some e) : LaneStep c s k (balkHead (s.laneCtx k) (s.lane k))
  | free (hstate : (s.lane k).current = .self ∨ (s.lane k).current = .attended) (hroom : (s.lane k).inflight.length < 2) :
      LaneStep c s k (joinEntry (s.laneCtx k) (s.lane k) (newEntry (s.laneCtx k) .free))
  | timeout : LaneStep c s k (timeoutEvent (s.laneCtx k) (s.lane k))
  | pulse : LaneStep c s k { lane := pulseEnd (s.laneCtx k) s.profile.modeOf[k.val] (s.lane k) }
  | rising (x : ArmSensor) (h : s.takesEdges k = true) : LaneStep c s k (risingEdge (s.laneCtx k) (s.lane k) x)
  | falling (x : ArmSensor) : LaneStep c s k { lane := fallingEdge (s.laneCtx k) (s.lane k) x }
  | level (x : ArmSensor) (high : Bool) : LaneStep c s k { lane := (s.lane k).setLevel x high }
  | window : LaneStep c s k { lane := endWindow (s.laneCtx k) (s.lane k) }
  | stuck (x : ArmSensor) : LaneStep c s k (stuckEvent (s.laneCtx k) (s.lane k) x)
  | cause : LaneStep c s k (causeEvent (s.laneCtx k) .linkReset (s.lane k))

/-- The effects of one block that leave the ports, the requests at the engine and a page write's owner as they are. `s₀` is the
state in which the command came: what an effect needs of the law of the engine or of the store is needed of that state. -/
inductive Effect (c : Instr) (s₀ s : State) : State → Prop
  | lane (k : LaneId) (o : LaneOut) (h : LaneStep c s k o) : Effect c s₀ s (s.applyLane k o)
  | admitHeld (k : LaneId) (serial : Nat) (r : PassRecord) (consumed : Bool)
      (hstate : (s.lane k).current = .self ∨ (s.lane k).current = .attended) (hroom : (s.lane k).inflight.length < 2)
      (hrec : s.record serial = some r)
      (hv : verdict (s.admitCtx k) (some r) = if consumed then .consume else .reride)
      (hbusy : s.meetsBusy (pageOfSerial serial) = false) (htasks : EngineLaw s₀ → s.engine.tasks = []) :
      Effect c s₀ s
        ((s.setRecord serial (fun q => q.withUsage (r.usage.admitHeld (s.admitCtx k)))).applyLane k
          (joinEntry (s.laneCtx k) (s.lane k) (newEntry (s.laneCtx k) (.pass (admissionOf (s.admitCtx k) r)))))
  | admitSettled (k : LaneId) (serial : Nat) (r : PassRecord) (consumed : Bool) (hrec : s.record serial = some r)
      (hv : verdict (s.admitCtx k) (some r) = if consumed then .consume else .reride)
      (hbusy : s.meetsBusy (pageOfSerial serial) = false) :
      Effect c s₀ s (s.setRecord serial (fun q => q.withUsage (r.usage.admitSettled (s.admitCtx k))))
  | refused (k : LaneId) : Effect c s₀ s (s.send (.refused k))
  | flag (serial : Nat) (flag : Bool) : Effect c s₀ s (serveFlag s serial flag).state
  | opened (i : StationId) (page : Nat) (hs : s.staging = .empty) (hpage : page < Config.pageCount)
      (hready : StoreLaw s₀ → s.phase = .ready) :
      Effect c s₀ s
        { s with
          staging :=
            .opened { page := page, owner := i, entries := (pageRecords s.store page).map copyStaged } s.elapsed }
  | put (b : Buffer) (mark : Nat) (e : Entitlement) (hs : s.staging = .opened b mark) (hok : entitlementOk e = true)
      (hpage : homePage e.serial = b.page)
      (hroom : holdsSerial b.entries e.serial = true ∨ b.entries.length < Config.pageRecords) :
      Effect c s₀ s
        (s.restage { b with entries := insertStaged { ent := e, mark := putMark s e.serial } b.entries })
  | drop (b : Buffer) (mark serial : Nat) (hs : s.staging = .opened b mark) :
      Effect c s₀ s (s.restage { b with entries := b.entries.filter (fun e => e.ent.serial != serial) })
  | touched (b : Buffer) (mark mark' : Nat) (hs : s.staging = .opened b mark) :
      Effect c s₀ s { s with staging := .opened b mark' }
  | abandoned (b : Buffer) (mark : Nat) (hs : s.staging = .opened b mark) :
      Effect c s₀ s ({ s with staging := .empty }.post (.staging b.page .abandoned))
  | tariffPut (n : Fin 64) (cls : TariffClass) (h : s.refund.locked = false) :
      Effect c s₀ s { s with refund := { s.refund with tariff := s.refund.tariff.set n.val cls } }
  | tariffLock : Effect c s₀ s { s with refund := { s.refund with locked := true } }
  | refunded (p : Port) (serial : Nat) (r : PassRecord) (j : Nat) (hrec : s.record serial = some r)
      (hdays : j ≤ r.remaining) (hjournal : s.refund.journal.length < Config.journalMax)
      (hbusy : s.meetsBusy (pageOfSerial serial) = false) :
      Effect c s₀ s (makeRefund s p r j (figuresFor (s.tariffOf r.ent.classNo) r j).amount)
  | journalReleased (n : Count32) : Effect c s₀ s { s with refund := s.refund.release n }
  | logReleased (n : Count32) : Effect c s₀ s { s with count := s.count.release n }
  | reference (body : List Byte) (tRef : Nat) (force : Bool) (hc : ∃ p tag, c = .timeReference p tag body)
      (hbody : referenceBody body = some (tRef, force)) :
      Effect c s₀ s
        (applyReference s tRef ((tRef : Int) - s.timebase.time)
          (referenceCase s.timebase.status ((tRef : Int) - s.timebase.time) force))
  | configured (body : List Byte) (items : List ConfigItem) (hbody : configureBody body = some items)
      (hlanes : lanesOpen s items = none) (hc : ∃ p tag, c = .configure p tag body) :
      Effect c s₀ s (storeProfile s (s.profile.configured items) (configuredTrim s.timebase.trim items))
  | fetched (i : StationId) (n : Nat) :
      Effect c s₀ s (s.setNoticePort i { s.noticePort i with queue := (s.noticePort i).queue.drop n })
  | subscribed (i : StationId) (m : Word16) :
      Effect c s₀ s
        (s.setNoticePort i { queue := (s.noticePort i).queue.filter (fun n => maskIncludes m n.detail), mask := m })
  | restartMarked (mark : Nat) : Effect c s₀ s { s with restartDue := some mark }
  | ran : Effect c s₀ s { s with elapsed := s.elapsed + 1, timebase := s.timebase.tick }
  | slewed (h : s.timebase.correction ≠ 0) : Effect c s₀ s { s with timebase := s.timebase.slew }
  | freed (h : s.timebase.status = .locked) :
      Effect c s₀ s ({ s with timebase := { s.timebase with status := .free } }.post (.timebase .free false))
  | lastKnown (due : Nat) :
      Effect c s₀ s { s with timebase := { s.timebase with lastKnown := s.timebase.time, lastKnownDue := due } }
  | boundary : Effect c s₀ s (closeAtBoundary s)
  | settled (hc : c = .dayChange ∨ c = .engineTakeWork ∨ ∃ p tag req, c = .portReset p tag req) : Effect c s₀ s (settleDay s)
  | counted (ev : CountEvent) :
      Effect c s₀ s { s with count := s.count.take ev, countsInFlight := s.countsInFlight.erase ev }
  | posted (ds : List NoticeDetail) : Effect c s₀ s (s.postAll ds)
  | postTaken (d : NoticeDetail) : Effect c s₀ s (takePost s d)
  | ready (hc : c = .startupComplete) (h : s.phase = .starting) : Effect c s₀ s (becomeReady s)
  | taskServed (t : Task) (h : s.engine.nextTask = some t) (hbusy : s.meetsBusy (pageOfSerial t.pass.serial) = false) :
      Effect c s₀ s (serveTask { s with engine := s.engine.dropTask } t)
  | deferredTaskServed (t : Task) (rest : List Work) (h : s.engine.deferred = .task t :: rest) (hbusy : s.pageBusy = none) :
      Effect c s₀ s (serveTask { s with engine := { s.engine with deferred := rest } } t)
  | taskDeferred (t : Task) (h : s.engine.nextTask = some t)
      (hbusy : s.meetsBusy (pageOfSerial t.pass.serial) = true) (hroom : s.engine.hasRoom = true) :
      Effect c s₀ s { s with engine := s.engine.dropTask.defer (.task t) }
  | taskLeft (hbusy : s.pageBusy ≠ none) :
      Effect c s₀ s { s with engine := { s.engine with tasks := leaveTask s.engine.tasks } }
  | requestLeft (p : Port) (hbusy : s.pageBusy ≠ none) : Effect c s₀ s { s with engine := s.engine.leaveRequest p }

/-- The moves a command is made of. -/
inductive Move (c : Instr) (s₀ s : State) : State → Prop
  | effect (t : State) (h : Effect c s₀ s t) : Move c s₀ s t
  | port (p : Port) (ps : PortState) : Move c s₀ s (s.setPort p ps)
  | enqueued (r : Request) (hleft : r.left = false) (hready : s.phase = .ready) : Move c s₀ s (s.enqueue r)
  | requestTaken (p : Port) : Move c s₀ s { s with engine := s.engine.takeRequest p }
  | requestDeferred (r : Request) (op : EngineOp) (hop : engineOp r.kind r.body = some op)
      (hbusy : s.meetsBusy op.needs = true) (hroom : s.engine.hasRoom = true) :
      Move c s₀ s { s with engine := (s.engine.takeRequest r.port).defer (.request r) }
  | deferredTaken (r : Request) (rest : List Work) (h : s.engine.deferred = .request r :: rest) :
      Move c s₀ s { s with engine := { s.engine with deferred := rest } }
  | withdrawn (p : Port) : Move c s₀ s { s with engine := s.engine.portReset p }
  | begun (b : Buffer) (mark : Nat) (hs : s.staging = .opened b mark)
      (hconflict : firstConflict b.entries (pageRecords s.store b.page) = none)
      (hready : StoreLaw s₀ → s.phase = .ready)
      (hwork : EngineLaw s₀ → s.engine.deferred = [] ∧ s.engine.nextTask = none) :
      Move c s₀ s (beginWrite s b)
  | written (b : Buffer) (w : PageWrite) (hs : s.staging = .committing b w) :
      Move c s₀ s
        { s with
          store := replacePage s.store b.page (w.image.map (withStagedFlag b.entries))
          staging := .empty
          engine := s.engine.unleave }
  | writeFailed (b : Buffer) (w : PageWrite) (hs : s.staging = .committing b w) :
      Move c s₀ s
        { s with
          staging := if w.disowned then .empty else .opened b s.elapsed
          engine := s.engine.unleave }
  | noticesReset (i : StationId) : Move c s₀ s (s.setNoticePort i NoticePort.reset)
  | stagingReset (i : StationId) : Move c s₀ s { s with staging := s.staging.portReset i }
  | reset (hc : c = .deviceReset ∨ c = .restartDueExpiry ∨ ∃ p, c = .selectPeriodEnd p) : Move c s₀ s (deviceReset s)

/-- The chains of effects. -/
abbrev Effects (c : Instr) (s₀ : State) : State → State → Prop := ReflTransGen (Effect c s₀)

/-- The chains of moves. -/
abbrev Moves (c : Instr) (s₀ : State) : State → State → Prop := ReflTransGen (Move c s₀)

variable {c : Instr} {s₀ s t u : State}

theorem Effects.moves (h : Effects c s₀ s t) : Moves c s₀ s t :=
  h.lift id fun _ _ he => .effect _ he

/-- An invariant that every move keeps is kept by every chain of moves. -/
theorem Moves.keeps {P : State → Prop} (hP : ∀ s t, P s → Move c s₀ s t → P t) (h : Moves c s₀ s t) (hs : P s) : P t := by
  induction h with
  | refl => exact hs
  | tail _ hm ih => exact hP _ _ ih hm

/-- An invariant that every effect keeps is kept by every chain of effects. -/
theorem Effects.keeps {P : State → Prop} (hP : ∀ s t, P s → Effect c s₀ s t → P t) (h : Effects c s₀ s t) (hs : P s) :
    P t := by
  induction h with
  | refl => exact hs
  | tail _ hm ih => exact hP _ _ ih hm

/-! ## The units -/

/-- An event of a lane that sends nothing sets the lane. -/
theorem applyLane_lane_only (s : State) (k : LaneId) (l : Lane) : s.applyLane k { lane := l } = s.setLane k l := by
  simp [State.applyLane, State.submitAll, State.sendAll, State.postAll]
  rfl

theorem LaneStep.effects {k : LaneId} {o : LaneOut} (h : LaneStep c s k o) : Effects c s₀ s (s.applyLane k o) :=
  .single (.lane k o h)

theorem LaneStep.setLane_effects {k : LaneId} {l : Lane} (h : LaneStep c s k { lane := l }) :
    Effects c s₀ s (s.setLane k l) :=
  applyLane_lane_only s k l ▸ h.effects

theorem serveLaneStatus_state (p : Port) (body : List Byte) : (serveLaneStatus s p body).state = s := by
  unfold serveLaneStatus
  split
  · split
    · split <;> rfl
    · split <;> rfl
  · rfl

theorem serveLaneState_effects (body : List Byte) (hc : ∃ p tag body, c = .laneState p tag body)
    (hready : s.phase = .ready) : Effects c s₀ s (serveLaneState s body).state := by
  unfold serveLaneState
  split
  · exact .refl
  · exact .refl
  · dsimp only
    split
    · rename_i hok
      exact LaneStep.effects (.command _ hc hready hok)
    · exact .refl

theorem serveLaneAck_effects (body : List Byte) : Effects c s₀ s (serveLaneAck s body).state := by
  unfold serveLaneAck
  split
  · exact .refl
  · exact LaneStep.effects .ack

theorem serveGo_effects (body : List Byte) : Effects c s₀ s (serveGo s body).state := by
  unfold serveGo
  split
  · exact .refl
  · dsimp only
    split
    · exact .refl
    · exact LaneStep.setLane_effects (.go _ ‹_›)

theorem serveDeny_effects (body : List Byte) : Effects c s₀ s (serveDeny s body).state := by
  unfold serveDeny
  split
  · exact .refl
  · dsimp only
    split
    · exact .refl
    · exact LaneStep.effects (.deny _ ‹_›)

/-- A lane neither SHUT nor in OBSERVE is in SELF or ATTENDED. -/
theorem laneState_self_or_attended {st : LaneState} (hs : st ≠ .shut) (ho : st ≠ .observe) :
    st = .self ∨ st = .attended := by
  cases st <;> simp_all

theorem serveFree_effects (body : List Byte) : Effects c s₀ s (serveFree s body).state := by
  unfold serveFree
  split
  · exact .refl
  · dsimp only
    split
    · exact .refl
    · rename_i hstate
      obtain ⟨hshut, hobserve⟩ := not_or.mp hstate
      split
      · exact .refl
      · rename_i hroom
        exact LaneStep.effects (.free (laneState_self_or_attended hshut hobserve) (Nat.lt_of_not_le hroom))

theorem serveLogRead_state (body : List Byte) : (serveLogRead s body).state = s := by
  unfold serveLogRead
  split <;> rfl

theorem serveLogRelease_effects (body : List Byte) : Effects c s₀ s (serveLogRelease s body).state := by
  unfold serveLogRelease
  split
  · exact .refl
  · exact .single (.logReleased _)

theorem serveReference_effects (body : List Byte) (hc : ∃ p tag, c = .timeReference p tag body) :
    Effects c s₀ s (serveReference s body).state := by
  unfold serveReference
  split
  · exact .refl
  · exact .single (.reference _ _ _ hc ‹_›)

theorem serveReadTime_state (body : List Byte) : (serveReadTime s body).state = s := by
  unfold serveReadTime
  split <;> rfl

theorem serveConfigure_effects (body : List Byte) (hc : ∃ p tag, c = .configure p tag body) : Effects c s₀ s (serveConfigure s body).state := by
  unfold serveConfigure
  split
  · exact .refl
  · split
    · exact .refl
    · exact .single (.configured _ _ ‹_› ‹_› hc)

theorem serveReadProfile_state (body : List Byte) : (serveReadProfile s body).state = s := by
  unfold serveReadProfile
  split <;> rfl

theorem serveSubscribe_effects (p : Port) (body : List Byte) : Effects c s₀ s (serveSubscribe s p body).state := by
  unfold serveSubscribe
  split
  · exact .refl
  · split
    · exact .refl
    · exact .single (.subscribed _ _)

theorem serveFetch_effects (p : Port) (body : List Byte) : Effects c s₀ s (serveFetch s p body).state := by
  unfold serveFetch
  split
  · exact .refl
  · split
    · exact .single (.fetched _ _)
    · exact .refl

theorem serveRestart_effects (body : List Byte) : Effects c s₀ s (serveRestart s body).state := by
  unfold serveRestart
  split
  · exact .single (.restartMarked _)
  · exact .refl

/-! ## The services of the engine -/

theorem servePassRead_state (serial : Nat) : (servePassRead s serial).state = s := by
  unfold servePassRead
  split <;> rfl

/-- What an ADMIT's service leaves: the state as it was, a refused count event, or an admission. -/
theorem serveAdmitLane_effects (k : LaneId) (serial : Nat) (hbusy : s.meetsBusy (pageOfSerial serial) = false)
    (htasks : EngineLaw s₀ → s.engine.tasks = []) : Effects c s₀ s (serveAdmitLane s k serial).state := by
  have hadmit (r : PassRecord) (consumed : Bool) (hrec : s.record serial = some r)
      (hv : verdict (s.admitCtx k) (some r) = if consumed then .consume else .reride) (hshut : (s.lane k).current ≠ .shut)
      (hroom : ¬ (((s.lane k).current = .self ∨ (s.lane k).current = .attended) ∧
        Config.inFlightMax ≤ (s.lane k).inflight.length)) :
      Effects c s₀ s (admitAt s k (s.admitCtx k) r consumed).state := by
    obtain ⟨-, -, rfl⟩ := findRecord_some hrec
    unfold admitAt
    dsimp only
    split
    case isTrue hobserve => exact .single (.admitSettled k _ r consumed hrec hv hbusy)
    case isFalse hobserve =>
      have hstate := laneState_self_or_attended hshut hobserve
      exact .single (.admitHeld k _ r consumed hstate (Nat.lt_of_not_le fun hfull => hroom ⟨hstate, hfull⟩) hrec hv hbusy htasks)
  unfold serveAdmitLane
  dsimp only
  split
  · exact .refl
  · split
    · exact .refl
    · split
      · exact .single (.refused k)
      · rename_i hshut hroom _ r hrec
        split
        · exact .single (.refused k)
        · exact hadmit r false hrec (by simpa using ‹verdict _ _ = _›) hshut hroom
        · exact hadmit r true hrec (by simpa using ‹verdict _ _ = _›) hshut hroom

/-- An owner's open buffer (R123). -/
theorem openBuffer_inr {st : Staging} {i : StationId} {b : Buffer} (h : openBuffer st i = .inr b) :
    b.owner = i ∧ ∃ mark, st = .opened b mark := by
  unfold openBuffer at h
  split at h
  · cases h
  · cases h
  · split at h
    · cases h
      exact ⟨‹_›, _, rfl⟩
    · cases h

theorem servePageOpen_effects (i : StationId) {page : Nat} (hpage : page < Config.pageCount)
    (hready : StoreLaw s₀ → s.phase = .ready) : Effects c s₀ s (servePageOpen s i page).state := by
  unfold servePageOpen
  split
  · exact .single (.opened i page ‹_› hpage hready)
  · exact .refl
  · exact .refl

theorem restage_effects {b : Buffer} {mark : Nat} (hs : s.staging = .opened b mark) : Effects c s₀ s (s.restage b) :=
  .single (.touched b mark s.elapsed hs)

theorem serveRecordPut_effects (i : StationId) {e : Entitlement} (hok : entitlementOk e = true) :
    Effects c s₀ s (serveRecordPut s i e).state := by
  unfold serveRecordPut
  split
  · exact .refl
  · rename_i b hb
    obtain ⟨-, mark, hs⟩ := openBuffer_inr hb
    dsimp only
    split
    · exact restage_effects hs
    · rename_i hpage
      split
      · exact restage_effects hs
      · rename_i hroom
        refine .single (.put b mark e hs hok (not_not.mp hpage) ?_)
        rw [not_and_or, Bool.not_eq_false, Nat.not_le] at hroom
        exact hroom

theorem serveRecordDrop_effects (i : StationId) (serial : Nat) : Effects c s₀ s (serveRecordDrop s i serial).state := by
  unfold serveRecordDrop
  split
  · exact .refl
  · rename_i b hb
    obtain ⟨-, mark, hs⟩ := openBuffer_inr hb
    exact .single (.drop b mark serial hs)

theorem serveStagingRead_effects (i : StationId) (position : Nat) :
    Effects c s₀ s (serveStagingRead s i position).state := by
  unfold serveStagingRead
  split
  · exact .refl
  · exact .single (.touched _ _ _ ‹_›)
  · exact .refl

theorem servePageAbandon_effects (i : StationId) : Effects c s₀ s (servePageAbandon s i).state := by
  unfold servePageAbandon
  split
  · exact .refl
  · rename_i b hb
    obtain ⟨-, mark, hs⟩ := openBuffer_inr hb
    exact .single (.abandoned b mark hs)

theorem serveTariffPut_effects (n : Fin 64) (cls : TariffClass) : Effects c s₀ s (serveTariffPut s n cls).state := by
  unfold serveTariffPut
  split
  · exact .refl
  · exact .single (.tariffPut n _ (Bool.not_eq_true _ ▸ ‹_›))

/-- The checks of a refund request leave the state; a request that passes has its record, class and refundable days (R112,
R113). -/
theorem refundChecks_spec (s : State) (serial : Nat) :
    match refundChecks s serial with
    | .inl refusal => refusal.state = s
    | .inr (r, cls, k) =>
      s.record serial = some r ∧ cls = s.tariffOf r.ent.classNo ∧ k = refundableDays cls r s.opDay := by
  cases hrec : s.record serial with
  | none => simp [refundChecks, hrec]
  | some r =>
    simp only [refundChecks, hrec]
    split_ifs <;> simp

theorem serveQuote_state (serial asked : Nat) : (serveQuote s serial asked).state = s := by
  have h := refundChecks_spec s serial
  unfold serveQuote
  split
  · simpa only [‹refundChecks s serial = _›] using h
  · rfl

theorem serveCommit_effects (p : Port) (serial days expected : Nat)
    (hbusy : s.meetsBusy (pageOfSerial serial) = false) : Effects c s₀ s (serveCommit s p serial days expected).state := by
  have h := refundChecks_spec s serial
  unfold serveCommit
  split
  · rename_i refusal hr
    rw [hr] at h
    exact h ▸ .refl
  · rename_i r cls k hr
    rw [hr] at h
    obtain ⟨hrec, rfl, rfl⟩ := h
    dsimp only
    split
    · exact .refl
    · rename_i hjournal
      split
      · exact .refl
      · split
        · exact .refl
        · exact .single (.refunded p serial r _ hrec ((min_le_right _ _).trans (refundableDays_le_remaining _ _ _))
            (Nat.lt_of_not_le hjournal) hbusy)

/-- A page number is one of a page (R19, R124). -/
theorem lt_pageCount_of_engineOp {k : Kind} {body : List Byte} {page : Nat}
    (h : engineOp k body = some (.pageOpen page)) : page < Config.pageCount := by
  cases k <;> simp only [engineOp] at h <;> grind [Option.map_eq_some_iff]

/-- An entitlement meets the constraints of R2 (R125). -/
theorem entitlementOk_of_engineOp {k : Kind} {body : List Byte} {e : Entitlement}
    (h : engineOp k body = some (.recordPut e)) : entitlementOk e = true := by
  cases k <;> simp only [engineOp] at h <;> grind [Option.map_eq_some_iff]

/-- What the service of a request may rest on: its page is not busy, and what the laws of the state before the command say of
the work that stands before it. -/
structure Serviceable (s₀ s : State) (op : EngineOp) : Prop where
  busy : s.meetsBusy op.needs = false
  ready : StoreLaw s₀ → s.phase = .ready
  tasks : EngineLaw s₀ → (∃ serial, op = .admitPass serial) → s.engine.tasks = []
  work : EngineLaw s₀ → op = .pageCommit → s.pageBusy = none → s.engine.deferred = [] ∧ s.engine.nextTask = none

/-- What a service comes to: an answer after effects that leave the requests at the engine, or a write begun for the owner of an
OPEN buffer (R19, R133). -/
theorem serveOp_cases {k : Kind} {body : List Byte} {op : EngineOp} (p : Port) (hop : engineOp k body = some op)
    (hs : Serviceable s₀ s op) :
    (∃ a, serveOp s p op = .answered a ∧ Effects c s₀ s a.state) ∨
      ∃ i b mark, p = .station i ∧ b.owner = i ∧ s.staging = .opened b mark ∧ serveOp s p op = .begun (beginWrite s b) ∧
        Move c s₀ s (beginWrite s b) := by
  have hstation (serve : StationId → Served) (h : ∀ i, Effects c s₀ s (serve i).state) :
      ∃ a, atStation s p (fun i => .answered (serve i)) = .answered a ∧ Effects c s₀ s a.state := by
    cases p with
    | lane j => exact ⟨_, rfl, .refl⟩
    | station i => exact ⟨_, rfl, h i⟩
  cases op with
  | admitPass serial =>
    refine .inl ⟨_, rfl, ?_⟩
    cases p with
    | lane j => exact serveAdmitLane_effects j serial hs.busy fun hlaw => hs.tasks hlaw ⟨serial, rfl⟩
    | station i => exact .refl
  | passRead serial => exact .inl ⟨_, rfl, (servePassRead_state (s := s) serial).symm ▸ .refl⟩
  | block serial => exact .inl ⟨_, rfl, .single (.flag serial true)⟩
  | unblock serial => exact .inl ⟨_, rfl, .single (.flag serial false)⟩
  | pageOpen page =>
    exact .inl (hstation _ fun i => servePageOpen_effects i (lt_pageCount_of_engineOp hop) hs.ready)
  | recordPut e =>
    exact .inl (hstation _ fun i => serveRecordPut_effects i (entitlementOk_of_engineOp hop))
  | recordDrop serial => exact .inl (hstation _ fun i => serveRecordDrop_effects i serial)
  | stagingRead position => exact .inl (hstation _ fun i => serveStagingRead_effects i position)
  | pageCommit =>
    cases p with
    | lane j => exact .inl ⟨_, rfl, .refl⟩
    | station i =>
      simp only [serveOp, atStation, serveCommitPage]
      split
      · exact .inl ⟨_, rfl, .refl⟩
      · rename_i b hb
        obtain ⟨howner, mark, hstaging⟩ := openBuffer_inr hb
        split
        · exact .inl ⟨_, rfl, restage_effects hstaging⟩
        · rename_i hconflict
          exact .inr ⟨i, b, mark, rfl, howner, hstaging, rfl,
            .begun b mark hstaging hconflict hs.ready fun hlaw => hs.work hlaw rfl (by rw [State.pageBusy, hstaging])⟩
  | pageAbandon => exact .inl (hstation _ fun i => servePageAbandon_effects i)
  | tariffPut n cls => exact .inl ⟨_, rfl, serveTariffPut_effects n cls⟩
  | tariffRead n => exact .inl ⟨_, rfl, .refl⟩
  | tariffLock => exact .inl ⟨_, rfl, .single .tariffLock⟩
  | refundQuote serial asked => exact .inl ⟨_, rfl, (serveQuote_state (s := s) serial asked).symm ▸ .refl⟩
  | refundCommit serial days expected => exact .inl ⟨_, rfl, serveCommit_effects p serial days expected hs.busy⟩
  | journalRead n => exact .inl ⟨_, rfl, .refl⟩
  | journalRelease n => exact .inl ⟨_, rfl, .single (.journalReleased n)⟩

/-! ## Requests at a port -/

/-- A request that a port accepts, in a state that its units find READY, is answered after the moves of its service. -/
theorem request_moves (p : Port) (k : Kind) (tag : Byte) {serve : State → State}
    (h : ∀ u, u.phase = .ready → Moves c s₀ u (serve u)) : Moves c s₀ s (s.request p k tag serve) := by
  unfold State.request State.receive
  dsimp only
  split
  · exact .refl
  · split
    · exact .single (.port _ _)
    · refine .head (.port p ((s.port p).take (.reserved k.code tag))) ?_
      unfold State.judge
      split
      · exact .single (.port _ _)
      · split
        · exact .single (.port _ _)
        · rename_i hready
          refine h _ ?_
          cases hp : (s.setPort p ((s.port p).take (.reserved k.code tag))).phase with
          | starting => exact absurd hp hready
          | ready => rfl

theorem requestUnit_moves (p : Port) (k : Kind) (tag : Byte) {serve : State → Served}
    (h : ∀ u, u.phase = .ready → Effects c s₀ u (serve u).state) : Moves c s₀ s (s.requestUnit p k tag serve) :=
  request_moves p k tag fun u hu => (h u hu).moves.tail (.port _ _)

theorem requestEngine_moves (p : Port) (k : Kind) (tag : Byte) (body : List Byte) :
    Moves c s₀ s (s.requestEngine p k tag body) :=
  request_moves p k tag fun _ hu => .single (.enqueued _ rfl hu)

/-! ## The engine's taking of work -/

theorem serveRequest_moves {k : Kind} {body : List Byte} {op : EngineOp} (p : Port) (hop : engineOp k body = some op)
    (hs : Serviceable s₀ s op) : Moves c s₀ s (serveRequest s p op) := by
  unfold serveRequest
  rcases serveOp_cases (c := c) p hop hs with ⟨a, ha, heff⟩ | ⟨_, b, _, _, _, _, hb, hmove⟩
  · rw [ha]
    exact heff.moves.tail (.port _ _)
  · rw [hb]
    exact .single hmove

theorem refuseForm_move (r : Request) : Move c s₀ s (refuseForm s r) := .port _ _

/-- The request that the policy chooses is one of the pending set, and no ADMIT while there is a task (R22). -/
theorem mem_of_choose {e : Engine} {policy : Policy} {r : Request} (h : e.choose policy = some r) :
    r ∈ e.pendingSet ∧ e.eligible r = true := by
  obtain ⟨p, -, hp⟩ := List.exists_of_findSome?_eq_some h
  have hf := List.find?_some hp
  simp only [Bool.and_eq_true] at hf
  exact ⟨List.mem_of_find?_eq_some hp, hf.2⟩

theorem tasks_eq_nil_of_choose {e : Engine} {policy : Policy} {r : Request} (h : e.choose policy = some r)
    (hk : r.kind = .admitPass) : e.tasks = [] := by
  have he := (mem_of_choose h).2
  rw [Engine.eligible, Bool.and_eq_true] at he
  simpa [hk] using he.2

/-- Only an ADMIT's body spells an ADMIT. -/
theorem kind_of_engineOp_admitPass {k : Kind} {body : List Byte} {serial : Nat}
    (h : engineOp k body = some (.admitPass serial)) : k = .admitPass := by
  cases k <;> simp only [engineOp] at h <;> grind [Option.map_eq_some_iff]

/-- The engine holds no request while the device is STARTING (R28, R176). -/
theorem StoreLaw.ready_of_pending {s : State} (h : StoreLaw s) (hr : s.engine.pendingSet ≠ [] ∨ s.engine.deferred ≠ []) :
    s.phase = .ready := by
  cases hp : s.phase with
  | ready => rfl
  | starting =>
    obtain ⟨-, hpending, hdeferred⟩ := h.2.2.2 hp
    simp_all

/-- Without a busy page the engine has taken every task before it takes a request (R22, R26). -/
theorem EngineLaw.tasks_eq_nil {s : State} (h : EngineLaw s) (hbusy : s.pageBusy = none) (hnext : s.engine.nextTask = none) :
    s.engine.tasks = [] := by
  rw [Engine.nextTask, List.find?_eq_none] at hnext
  have hleft := (h.2.2.1 hbusy).1
  cases ht : s.engine.tasks with
  | nil => rfl
  | cons t rest =>
    have hmem : t ∈ s.engine.tasks := ht ▸ List.mem_cons_self
    exact absurd (hleft t hmem) (by simpa using hnext t hmem)

@[simp] theorem settleDay_engine (s : State) : (settleDay s).engine = s.engine := by unfold settleDay; split <;> rfl
@[simp] theorem settleDay_staging (s : State) : (settleDay s).staging = s.staging := by unfold settleDay; split <;> rfl
@[simp] theorem settleDay_phase (s : State) : (settleDay s).phase = s.phase := by unfold settleDay; split <;> rfl
@[simp] theorem settleDay_profile (s : State) : (settleDay s).profile = s.profile := by unfold settleDay; split <;> rfl
@[simp] theorem settleDay_store (s : State) : (settleDay s).store = s.store := by unfold settleDay; split <;> rfl

theorem pageBusy_congr {s t : State} (h : s.staging = t.staging) : s.pageBusy = t.pageBusy := by
  unfold State.pageBusy
  rw [h]

@[simp] theorem settleDay_pageBusy (s : State) : (settleDay s).pageBusy = s.pageBusy := pageBusy_congr (settleDay_staging s)

/-- What the laws before a command say of a chosen request holds after a day change and in any state that agrees with it
on what they are about. -/
theorem serviceable_of_choose {r : Request} {op : EngineOp} (hop : engineOp r.kind r.body = some op)
    (hchoose : s₀.engine.choose s₀.profile.policy = some r) (hnext : s₀.engine.nextTask = none)
    (hfirst : s₀.pageBusy ≠ none ∨ s₀.engine.deferred = []) (hphase : s.phase = s₀.phase)
    (htasks : s.engine.tasks = s₀.engine.tasks)
    (hdeferred : s₀.engine.deferred = [] → s.engine.deferred = [])
    (hpage : s.pageBusy = s₀.pageBusy) (hbusy : s.meetsBusy op.needs = false) : Serviceable s₀ s op where
  busy := hbusy
  ready hlaw := hphase.trans (hlaw.ready_of_pending (.inl (List.ne_nil_of_mem (mem_of_choose hchoose).1)))
  tasks _ hadmit := by
    obtain ⟨serial, rfl⟩ := hadmit
    exact htasks.trans (tasks_eq_nil_of_choose hchoose (kind_of_engineOp_admitPass hop))
  work _ _ hfree := ⟨hdeferred (hfirst.resolve_left fun h => h (hpage ▸ hfree)), by
    rw [Engine.nextTask, htasks]
    exact hnext⟩

/-- What the laws before a command say of the oldest deferred request. -/
theorem serviceable_of_deferred {r : Request} {rest : List Work} {op : EngineOp}
    (hop : engineOp r.kind r.body = some op) (hd : s₀.engine.deferred = .request r :: rest)
    (hnext : s₀.engine.nextTask = none) (hfree : s₀.pageBusy = none) (hphase : s.phase = s₀.phase)
    (htasks : s.engine.tasks = s₀.engine.tasks) (hpage : s.pageBusy = s₀.pageBusy) : Serviceable s₀ s op where
  busy := by
    rw [State.meetsBusy, hpage, hfree]
    cases op.needs <;> rfl
  ready hlaw := hphase.trans (hlaw.ready_of_pending (.inr (hd ▸ List.cons_ne_nil _ _)))
  tasks hlaw _ := htasks.trans (EngineLaw.tasks_eq_nil hlaw hfree hnext)
  work hlaw hcommit _ := by
    have hpage := (hlaw.2.1 (.request r) (hd ▸ List.mem_cons_self)).1
    simp [Work.page, hop, hcommit, EngineOp.needs] at hpage

theorem pageBusy_ne_none_of_meetsBusy {page : Option Nat} (h : s.meetsBusy page = true) : s.pageBusy ≠ none := by
  intro hfree
  rw [State.meetsBusy, hfree] at h
  cases page <;> simp at h

theorem takeTask_effects {t : Task} (hnext : s.engine.nextTask = some t) : Effects c s₀ s (takeTask s t) := by
  rcases takeTask_cases s t with ⟨hbusy, hroom, h⟩ | ⟨hbusy, -, h⟩ | ⟨hbusy, h⟩ <;> rw [h]
  · exact .single (.taskDeferred t hnext hbusy hroom)
  · exact .single (.taskLeft (pageBusy_ne_none_of_meetsBusy hbusy))
  · exact .single (.taskServed t hnext hbusy)

/-- A request that the policy chooses is refused for its form, deferred, left in place or served. -/
theorem takePending_moves (hengine : s.engine = s₀.engine) (hprofile : s.profile = s₀.profile)
    (hstaging : s.staging = s₀.staging) (hphase : s.phase = s₀.phase) (hnext : s.engine.nextTask = none)
    (hfirst : s.pageBusy ≠ none ∨ s.engine.deferred = []) : Moves c s₀ s (takePending s) := by
  unfold takePending
  split
  case h_2 => exact .refl
  case h_1 r hchoose =>
    have hpage : s.pageBusy = s₀.pageBusy := pageBusy_congr hstaging
    rcases takeRequest_cases s r with ⟨-, h⟩ | ⟨op, hop, ⟨hbusy, hroom, h⟩ | ⟨hbusy, -, h⟩ | ⟨hbusy, h⟩⟩ <;> rw [h]
    · exact .head (.requestTaken r.port) (.single (refuseForm_move r))
    · exact .single (.requestDeferred r op hop hbusy hroom)
    · exact .single (.effect _ (.requestLeft r.port (pageBusy_ne_none_of_meetsBusy hbusy)))
    · refine .head (.requestTaken r.port) (serveRequest_moves r.port hop ?_)
      rw [hengine, hprofile] at hchoose
      rw [hengine] at hnext hfirst
      rw [hpage] at hfirst
      exact serviceable_of_choose hop hchoose hnext hfirst hphase (hengine ▸ rfl)
        (fun hd => hengine ▸ hd) hpage hbusy

theorem takeWork_moves (hengine : s.engine = s₀.engine) (hprofile : s.profile = s₀.profile)
    (hstaging : s.staging = s₀.staging) (hphase : s.phase = s₀.phase) : Moves c s₀ s (takeWork s) := by
  rcases takeWork_cases s with ⟨t, hnext, h⟩ | ⟨w, rest, hnext, hfree, hd, h⟩ | ⟨hnext, hfirst, h⟩ <;> rw [h]
  · exact (takeTask_effects hnext).moves
  · cases w with
    | task t => exact .single (.effect _ (.deferredTaskServed t rest hd hfree))
    | request r =>
      refine .head (.deferredTaken r rest hd) ?_
      unfold serveWork
      dsimp only
      split
      · rename_i op hop
        rw [hengine] at hd hnext
        rw [pageBusy_congr hstaging] at hfree
        exact serveRequest_moves r.port hop
          (serviceable_of_deferred hop hd hnext hfree hphase (hengine ▸ rfl) (pageBusy_congr hstaging))
      · exact .single (refuseForm_move r)
  · exact takePending_moves hengine hprofile hstaging hphase hnext hfirst

theorem execEngineTakeWork_moves (hc : c = .engineTakeWork) : Moves c s s (takeWork (settleDay s)) :=
  .head (.effect _ (.settled (.inr (.inl hc)))) (takeWork_moves (settleDay_engine s) (settleDay_profile s) (settleDay_staging s) (settleDay_phase s))

/-! ## PORT RESET -/

theorem portReset_moves (p : Port) (tag : Byte) : Moves c s₀ s (portReset s p tag) := by
  unfold portReset
  refine .head (.port p ((s.port p).portReset tag)) (.head (.withdrawn p) ?_)
  cases p with
  | lane k => exact (LaneStep.effects .cause).moves
  | station i =>
    exact .head (.noticesReset i) (.head (.stagingReset i) (.single (.effect _ (.posted _))))

@[simp] theorem portReset_phase (p : Port) (tag : Byte) : (portReset s p tag).phase = s.phase := by
  cases p <;> rfl

/-- An error cause makes no task and no count event (R60). -/
@[simp] theorem causeEvent_tasks (lc : LaneCtx) (cause : ErrorCause) (l : Lane) : (causeEvent lc cause l).tasks = [] := by
  unfold causeEvent withStatePost
  split <;> rfl

@[simp] theorem causeEvent_counts (lc : LaneCtx) (cause : ErrorCause) (l : Lane) : (causeEvent lc cause l).counts = [] := by
  unfold causeEvent withStatePost
  split <;> rfl

/-- A PORT RESET takes the port's requests from the engine and leaves its tasks (R27). -/
@[simp] theorem portReset_engine (p : Port) (tag : Byte) : (portReset s p tag).engine = s.engine.portReset p := by
  cases p with
  | lane k => simp [portReset, Engine.portReset]
  | station i => rfl

/-- The page of a write under way (R14). -/
def Staging.busyPage : Staging → Option Nat
  | .empty => none
  | .opened _ _ => none
  | .committing b _ => some b.page

theorem pageBusy_eq (s : State) : s.pageBusy = s.staging.busyPage := by
  unfold State.pageBusy
  cases s.staging <;> rfl

/-- A PORT RESET disowns a page write and does not end it (R162). -/
theorem Staging.busyPage_portReset (st : Staging) (i : StationId) : (st.portReset i).busyPage = st.busyPage := by
  cases st with
  | empty => rfl
  | opened b mark =>
    unfold Staging.portReset
    dsimp only
    split <;> rfl
  | committing b w =>
    unfold Staging.portReset
    dsimp only
    split <;> rfl

@[simp] theorem pageBusy_portReset (p : Port) (tag : Byte) : (portReset s p tag).pageBusy = s.pageBusy := by
  rw [pageBusy_eq, pageBusy_eq]
  cases p with
  | lane k => rfl
  | station i => exact Staging.busyPage_portReset s.staging i

/-- The request in service is the oldest deferred entry while no page is busy, or the one the policy chooses, for a page that is
not busy (R22, R24). -/
theorem inService_cases {p : Port} {s1 : State} {r : Request} (h : inService s p = some (s1, r)) :
    s.engine.nextTask = none ∧ r.port = p ∧
      ((s.pageBusy = none ∧ ∃ rest, s.engine.deferred = .request r :: rest ∧
          s1 = { s with engine := { s.engine with deferred := rest } }) ∨
        ((s.pageBusy ≠ none ∨ s.engine.deferred = []) ∧ s.engine.choose s.profile.policy = some r ∧
          s.meetsBusy ((engineOp r.kind r.body).bind EngineOp.needs) = false ∧
          s1 = { s with engine := s.engine.takeRequest p })) := by
  have hdeferred (h : deferredInService s p = some (s1, r)) : r.port = p ∧
      ∃ rest, s.engine.deferred = .request r :: rest ∧ s1 = { s with engine := { s.engine with deferred := rest } } := by
    unfold deferredInService at h
    split at h
    · split at h
      · cases h
        exact ⟨‹_›, _, ‹_›, rfl⟩
      · cases h
    · cases h
  have hpending (h : pendingInService s p = some (s1, r)) : r.port = p ∧ s.engine.choose s.profile.policy = some r ∧
      s.meetsBusy ((engineOp r.kind r.body).bind EngineOp.needs) = false ∧
      s1 = { s with engine := s.engine.takeRequest p } := by
    unfold pendingInService at h
    split at h
    · split at h
      · rename_i hchoose hif
        cases h
        exact ⟨hif.1, hchoose, hif.2, rfl⟩
      · cases h
    · cases h
  unfold inService at h
  split at h
  · cases h
  · rename_i hnext hfree hd
    obtain ⟨hport, hrest⟩ := hdeferred h
    exact ⟨hnext, hport, .inl ⟨hfree, hrest⟩⟩
  · rename_i hnext hfree hd
    obtain ⟨hport, hrest⟩ := hpending h
    exact ⟨hnext, hport, .inr ⟨.inr hd, hrest⟩⟩
  · rename_i hnext hbusy
    obtain ⟨hport, hrest⟩ := hpending h
    exact ⟨hnext, hport, .inr ⟨.inl (by simp [hbusy]), hrest⟩⟩

theorem meetsBusy_congr {s t : State} (h : s.pageBusy = t.pageBusy) (page : Option Nat) :
    s.meetsBusy page = t.meetsBusy page := by
  unfold State.meetsBusy
  rw [h]

theorem serveWork_request_moves {r : Request}
    (h : ∀ op, engineOp r.kind r.body = some op → Serviceable s₀ s op) : Moves c s₀ s (serveWork s (.request r)) := by
  unfold serveWork
  dsimp only
  split
  · exact serveRequest_moves r.port ‹_› (h _ ‹_›)
  · exact .single (refuseForm_move r)

/-- A request in service when its port is reset may rest on what the engine held before the reset (R27, log entry 40). -/
theorem serviceable_of_inService {p : Port} {tag : Byte} {s1 : State} {r : Request} {op : EngineOp}
    (h : inService (settleDay s) p = some (s1, r)) (hop : engineOp r.kind r.body = some op) :
    Serviceable s (portReset s1 r.port tag) op := by
  obtain ⟨hnext, rfl, ⟨hfree, rest, hd, rfl⟩ | ⟨hfirst, hchoose, hbusy, rfl⟩⟩ := inService_cases h
  · rw [settleDay_engine] at hnext hd
    rw [settleDay_pageBusy] at hfree
    refine serviceable_of_deferred hop hd hnext hfree ?_ ?_ ?_
    · rw [portReset_phase]
      exact settleDay_phase s
    · simp [Engine.portReset]
    · rw [pageBusy_portReset]
      exact settleDay_pageBusy s
  · rw [settleDay_engine] at hnext hfirst hchoose
    rw [settleDay_pageBusy] at hfirst
    rw [settleDay_profile] at hchoose
    have hpage : (portReset { settleDay s with engine := (settleDay s).engine.takeRequest r.port } r.port tag).pageBusy =
        s.pageBusy := by
      rw [pageBusy_portReset]
      exact settleDay_pageBusy s
    refine serviceable_of_choose hop hchoose hnext hfirst ?_ ?_ (fun hd => ?_) hpage ?_
    · rw [portReset_phase]
      exact settleDay_phase s
    · simp [Engine.portReset, Engine.takeRequest]
    · simp [Engine.portReset, Engine.takeRequest, hd]
    · rw [meetsBusy_congr (hpage.trans (settleDay_pageBusy s).symm)]
      simpa [hop] using hbusy

/-- The request in service leaves the engine, its port is reset, and its service follows (R27, R162). -/
theorem portResetInService_served_moves {p : Port} {tag : Byte} {s1 : State} {r : Request}
    (h : inService (settleDay s) p = some (s1, r)) : Moves c s (settleDay s) (serveWork (portReset s1 p tag) (.request r)) := by
  have htaken : Move c s (settleDay s) s1 := by
    obtain ⟨-, -, ⟨-, rest, hd, rfl⟩ | ⟨-, -, -, rfl⟩⟩ := inService_cases h
    · exact .deferredTaken r rest hd
    · exact .requestTaken p
  refine .head htaken ((portReset_moves p tag).trans (serveWork_request_moves fun op hop => ?_))
  obtain ⟨-, rfl, -⟩ := inService_cases h
  exact serviceable_of_inService h hop

theorem portResetInService_moves (p : Port) (tag : Byte) (hc : ∃ req, c = .portReset p tag req) :
    Moves c s s (portResetInService s p tag) := by
  unfold portResetInService
  split
  · exact .head (.effect _ (.settled (.inr (.inr ⟨p, tag, hc⟩)))) (portResetInService_served_moves ‹_›)
  · exact portReset_moves p tag

/-! ## Every command -/

theorem writeCompletion_moves (result : WriteResult) {b : Buffer} {w : PageWrite} (hs : s.staging = .committing b w) :
    Moves c s₀ s
      (match result with
        | .success => completeWrite s b w
        | .verifyFailure => failWrite s b w) := by
  have hanswer (t : State) (code : Code) (body : List Byte) (d : NoticeDetail) :
      Moves c s₀ t ((t.answerCommit b w code body).post d) := by
    refine .tail ?_ (.effect _ (.posted [d]))
    unfold State.answerCommit
    split
    · exact .refl
    · exact .single (.port _ _)
  cases result with
  | success => exact .head (.written b w hs) (hanswer ..)
  | verifyFailure => exact .head (.writeFailed b w hs) (hanswer ..)

/-- The events of a port's own frames and select periods. -/
inductive PortEvent (s : State) : State → Prop
  | unknownKind (p : Port) (kind tag : Byte) :
      PortEvent s (s.receive p kind tag (fun s1 => s1.respond p .unknownKind []))
  | frameError (p : Port) (h : (s.port p).isFull = false) :
      PortEvent s (s.setPort p ((s.port p).take (.ready frameErrorResponse)))
  | periodStart (p : Port) :
      PortEvent s
        (s.setPort p
          { s.port p with
            selected := true, sending := (s.port p).firstReady, sent := 0, restartSent := false,
            line := .collecting [] [] })
  | clockedOut (p : Port) : PortEvent s (s.setPort p (s.port p).clockedOut)
  | periodEnd (p : Port) : PortEvent s (s.setPort p (s.port p).periodEnded)

/-- The classes of commands, by what they run. -/
inductive Runs (c : Instr) (s : State) : State → Prop
  | unit (p : Port) (k : Kind) (tag : Byte) (serve : State → Served)
      (h : ∀ u, u.phase = .ready → Effects c s u (serve u).state) : Runs c s (s.requestUnit p k tag serve)
  | engine (p : Port) (k : Kind) (tag : Byte) (body : List Byte) : Runs c s (s.requestEngine p k tag body)
  | portReset (p : Port) (tag : Byte) : Runs c s (portReset s p tag)
  | portResetInService (p : Port) (tag : Byte) (hc : ∃ req, c = .portReset p tag req) : Runs c s (portResetInService s p tag)
  | port (t : State) (h : PortEvent s t) : Runs c s t
  | work (hc : c = .engineTakeWork) : Runs c s (takeWork (settleDay s))
  | written (b : Buffer) (w : PageWrite) (hs : s.staging = .committing b w) : Runs c s (completeWrite s b w)
  | writeFailed (b : Buffer) (w : PageWrite) (hs : s.staging = .committing b w) : Runs c s (failWrite s b w)
  | effects (t : State) (h : Effects c s s t) : Runs c s t
  | reset (hc : c = .deviceReset ∨ c = .restartDueExpiry) : Runs c s (deviceReset s)
  | periodReset (p : Port) (hc : c = .selectPeriodEnd p) : Runs c s (deviceReset (s.setPort p (s.port p).periodEnded))

/-- A request that a unit serves without an effect. -/
theorem Runs.unit_of_state (p : Port) (k : Kind) (tag : Byte) {serve : State → Served} (h : ∀ u, (serve u).state = u) :
    Runs c s (s.requestUnit p k tag serve) :=
  .unit p k tag serve fun u _ => (h u).symm ▸ .refl

/-- An effect that is taken when it is due, and otherwise changes nothing. -/
theorem Runs.effect_if {cond : Prop} [Decidable cond] (h : cond → Effect c s s t) : Runs c s (if cond then t else s) := by
  split
  · exact .effects _ (.single (h ‹_›))
  · exact .effects _ .refl

/-- What each command runs. -/
theorem exec_runs (c : Instr) {s t : State} (h : exec c s = .next t) : Runs c s t := by
  cases c <;> obtain rfl := Host.Outcome.next.inj h
  case laneStatus p tag body => exact .unit_of_state p _ tag fun _ => serveLaneStatus_state p body
  case portReset p tag req =>
    split
    · exact .portReset p tag
    · exact .portResetInService p tag ⟨req, rfl⟩
  case laneState p tag body => exact .unit p _ tag _ fun _ hu => serveLaneState_effects body ⟨p, tag, body, rfl⟩ hu
  case laneAck p tag body => exact .unit p _ tag _ fun _ _ => serveLaneAck_effects body
  case releaseGo p tag body => exact .unit p _ tag _ fun _ _ => serveGo_effects body
  case releaseDeny p tag body => exact .unit p _ tag _ fun _ _ => serveDeny_effects body
  case releaseFree p tag body => exact .unit p _ tag _ fun _ _ => serveFree_effects body
  case logRead p tag body => exact .unit_of_state p _ tag fun _ => serveLogRead_state body
  case logRelease p tag body => exact .unit p _ tag _ fun _ _ => serveLogRelease_effects body
  case timeReference p tag body => exact .unit p _ tag _ fun _ _ => serveReference_effects body ⟨p, tag, rfl⟩
  case readTime p tag body => exact .unit_of_state p _ tag fun _ => serveReadTime_state body
  case configure p tag body => exact .unit p _ tag _ fun _ _ => serveConfigure_effects body ⟨p, tag, rfl⟩
  case readProfile p tag body => exact .unit_of_state p _ tag fun _ => serveReadProfile_state body
  case subscribe p tag body => exact .unit p _ tag _ fun _ _ => serveSubscribe_effects p body
  case fetchNotices p tag body => exact .unit p _ tag _ fun _ _ => serveFetch_effects p body
  case stationRestart p tag body => exact .unit p _ tag _ fun _ _ => serveRestart_effects body
  case unknownKind p kind tag => exact .port _ (.unknownKind p kind tag)
  case frameError p cause =>
    split
    · exact .effects _ .refl
    · exact .port _ (.frameError p (Bool.not_eq_true _ ▸ ‹_›))
  case selectPeriodStart p => exact .port _ (.periodStart p)
  case responseClockedOut p => exact .port _ (.clockedOut p)
  case selectPeriodEnd p =>
    split
    · exact .periodReset p rfl
    · exact .port _ (.periodEnd p)
  case engineTakeWork => exact .work rfl
  case writeCompletion result =>
    split
    · cases result with
      | success => exact .written _ _ ‹_›
      | verifyFailure => exact .writeFailed _ _ ‹_›
    · exact .effects _ .refl
    · exact .effects _ .refl
  case idleTimerEnd =>
    split
    · exact .effect_if fun _ => .abandoned _ _ ‹_›
    · exact .effects _ .refl
    · exact .effects _ .refl
  case passTimeout k => exact .effects _ (LaneStep.effects .timeout)
  case releasePulseEnd k => exact .effects _ (LaneStep.setLane_effects .pulse)
  case sensorRisingEdge k x =>
    split
    · exact .effects _ (LaneStep.effects (.rising x ‹_›))
    · exact .effects _ (LaneStep.setLane_effects (.level x true))
  case sensorFallingEdge k x =>
    split
    · exact .effects _ (LaneStep.setLane_effects (.falling x))
    · exact .effects _ (LaneStep.setLane_effects (.level x false))
  case rotationWindowEnd k => exact .effects _ (LaneStep.setLane_effects .window)
  case stuckLimit k x => exact .effects _ (LaneStep.effects (.stuck x))
  case slewTick => exact .effect_if fun h => .slewed h.1
  case referenceAgeExpiry => exact .effect_if fun h => .freed h.1
  case lastKnownWrite => exact .effect_if fun _ => .lastKnown _
  case boundaryEvent => exact .effect_if fun _ => .boundary
  case dayChange => exact .effects _ (.single (.settled (.inl rfl)))
  case countEvent ev => exact .effect_if fun _ => .counted ev
  case noticePost d => exact .effect_if fun _ => .postTaken d
  case deviceReset => exact .reset (.inl rfl)
  case startupComplete => exact .effect_if fun h => .ready rfl h
  case restartDueExpiry =>
    split
    · exact .reset (.inr rfl)
    · exact .effects _ .refl
  case runningOfStationTime => exact .effects _ (.single .ran)
  all_goals exact .engine _ _ _ _

theorem PortEvent.moves (h : PortEvent s t) : Moves c s₀ s t := by
  cases h with
  | unknownKind p kind tag =>
    unfold State.receive
    dsimp only
    split
    · exact .refl
    · split
      · exact .single (.port _ _)
      · exact .head (.port p ((s.port p).take (.reserved kind tag))) (.single (.port _ _))
  | frameError p h => exact .single (.port _ _)
  | periodStart p => exact .single (.port _ _)
  | clockedOut p => exact .single (.port _ _)
  | periodEnd p => exact .single (.port _ _)

theorem Runs.moves (h : Runs c s t) : Moves c s s t := by
  cases h with
  | unit p k tag serve h => exact requestUnit_moves p k tag h
  | engine p k tag body => exact requestEngine_moves p k tag body
  | portReset p tag => exact portReset_moves p tag
  | portResetInService p tag hc => exact portResetInService_moves p tag hc
  | port t h => exact h.moves
  | work hc => exact execEngineTakeWork_moves hc
  | written b w hs => exact writeCompletion_moves .success hs
  | writeFailed b w hs => exact writeCompletion_moves .verifyFailure hs
  | effects t h => exact h.moves
  | reset hc => exact .single (.reset (hc.imp_right .inl))
  | periodReset p hc => exact .head (.port p (s.port p).periodEnded) (.single (.reset (.inr (.inr ⟨p, hc⟩))))

/-- Every command is a chain of moves from the state in which it came. -/
theorem exec_moves (c : Instr) {s t : State} (h : exec c s = .next t) : Moves c s s t := (exec_runs c h).moves

/-- What a step is: nothing, or the front command on the queue's rest. -/
theorem step_cases {s t : State} (h : step s = .next t) :
    t = s ∨ ∃ c rest, s.pending = c :: rest ∧ exec c { s with pending := rest } = .next t := by
  cases hp : s.pending with
  | nil =>
    rw [step_idle s hp] at h
    exact .inl (Host.Outcome.next.inj h).symm
  | cons c rest =>
    rw [step_front s c rest hp] at h
    exact .inr ⟨c, rest, rfl, h⟩

/-- An invariant that does not look at the queue and is kept by every move is kept by every step. -/
theorem step_keeps {P : State → Prop} (hqueue : ∀ s rest, P s → P { s with pending := rest })
    (hmove : ∀ c s₀ s t, P s → Move c s₀ s t → P t) {s t : State} (hs : P s) (h : step s = .next t) : P t := by
  obtain rfl | ⟨c, rest, -, hexec⟩ := step_cases h
  · exact hs
  · exact (exec_moves c hexec).keeps (fun _ _ => hmove c _ _ _) (hqueue s rest hs)

end Sys2Proof.Machine
end

section
/-! PROOF. What the operations that branch leave unchanged, one equation each, and the queue of commands (log entries 1 and
34). -/

namespace Sys2Proof.Machine

variable {c : Instr} {s₀ s t : State}

/-! ## Frames -/

/-- A closing of the open interval changes the count unit and posts (R88, R91). -/
theorem closeInterval_frame (s : State) (stop : Nat) (flag : IntervalFlags) (newStart heldAt : Nat) :
    closeInterval s stop flag newStart heldAt =
      { s with
        count := (closeInterval s stop flag newStart heldAt).count
        postsInFlight := (closeInterval s stop flag newStart heldAt).postsInFlight } := by
  unfold closeInterval
  dsimp only
  split <;> rfl

/-- A day change changes the tariff lock and the stored current day, and posts (R104, R151). -/
theorem settleDay_frame (s : State) :
    settleDay s =
      { s with
        refund := { s.refund with locked := (settleDay s).refund.locked }
        timebase := { s.timebase with currentDay := (settleDay s).timebase.currentDay }
        postsInFlight := (settleDay s).postsInFlight } := by
  unfold settleDay
  split <;> rfl

/-- A reference changes the timebase, the count unit and the tariff lock, and posts (R144 to R147). -/
theorem applyReference_frame (s : State) (tRef : Nat) (e : Int) (cse : ReferenceCase) :
    applyReference s tRef e cse =
      { s with
        timebase := (applyReference s tRef e cse).timebase
        count := (applyReference s tRef e cse).count
        refund := (applyReference s tRef e cse).refund
        postsInFlight := (applyReference s tRef e cse).postsInFlight } := by
  cases cse with
  | refused => rfl
  | slew =>
    simp only [applyReference, slewReference]
    split <;> rfl
  | set =>
    simp only [applyReference, setReference]
    rw [settleDay_frame, closeStepped, closeInterval_frame]
    rfl
  | step =>
    simp only [applyReference, stepReference]
    rw [settleDay_frame, closeStepped, closeInterval_frame]
    rfl
  | forced =>
    simp only [applyReference, stepReference]
    rw [settleDay_frame, closeStepped, closeInterval_frame]
    rfl

/-- The state with the profile and the trim of a CONFIGURE stored, before the events that a changed field sets off (R73, R174). -/
def withProfile (s : State) (f : Profile) (trim : Int) : State :=
  { s with
    profile := f
    timebase := { s.timebase with trim := trim }
    lanes := s.lanes.mapIdx (fun k l => enableLane s.profile.lanesEnabled f.lanesEnabled s.elapsed k l) }

/-- A changed interval length or rollover minute is one cut, and a changed rollover minute a comparison of the day after it
(R94, R151, R174). -/
theorem storeProfile_cases (s : State) (f : Profile) (trim : Int) :
    (f.intervalMinutes = s.profile.intervalMinutes ∧ f.rollover = s.profile.rollover ∧
      storeProfile s f trim = withProfile s f trim) ∨
    (f.intervalMinutes ≠ s.profile.intervalMinutes ∧ f.rollover = s.profile.rollover ∧
      storeProfile s f trim = closeCut (withProfile s f trim)) ∨
    (f.rollover ≠ s.profile.rollover ∧ storeProfile s f trim = settleDay (closeCut (withProfile s f trim))) := by
  by_cases hr : f.rollover = s.profile.rollover <;> by_cases hi : f.intervalMinutes = s.profile.intervalMinutes <;>
    simp [storeProfile, withProfile, hr, hi]

/-- A CONFIGURE that passes its checks changes the profile, the timebase, what the lanes take, and what a cut and a day change
change (R174). -/
theorem storeProfile_frame (s : State) (f : Profile) (trim : Int) :
    storeProfile s f trim =
      { s with
        profile := f
        timebase := (storeProfile s f trim).timebase
        lanes := s.lanes.mapIdx (fun k l => enableLane s.profile.lanesEnabled f.lanesEnabled s.elapsed k l)
        count := (storeProfile s f trim).count
        refund := (storeProfile s f trim).refund
        postsInFlight := (storeProfile s f trim).postsInFlight } := by
  obtain ⟨-, -, h⟩ | ⟨-, -, h⟩ | ⟨-, h⟩ := storeProfile_cases s f trim <;> rw [h]
  · rfl
  · rw [closeCut, closeInterval_frame]
    rfl
  · rw [settleDay_frame, closeCut, closeInterval_frame]
    rfl

/-- A task changes the store, and a CONFIRM the held days of the lanes' entries (R50 to R53). -/
theorem serveTask_frame (s : State) (t : Task) :
    serveTask s t = { s with store := (serveTask s t).store, lanes := (serveTask s t).lanes } := by
  unfold serveTask
  split
  · unfold serveConfirm
    split
    · split <;> rfl
    · rfl
  · unfold serveVoid
    split <;> rfl

/-- BLOCK and UNBLOCK change the store and the staged entries (R17). -/
theorem serveFlag_frame (s : State) (serial : Nat) (flag : Bool) :
    (serveFlag s serial flag).state =
      { s with store := (serveFlag s serial flag).state.store, staging := (serveFlag s serial flag).state.staging } := by
  simp only [serveFlag]
  split <;> rfl

/-- A device reset is the reset of every block and a closing of the open interval (R95, R176). -/
theorem deviceReset_frame (s : State) :
    deviceReset s =
      { resetBlocks s with count := (deviceReset s).count, postsInFlight := (deviceReset s).postsInFlight } :=
  closeInterval_frame ..

/-! ## The queue -/

theorem Effect.pending (h : Effect c s₀ s t) : t.pending = s.pending := by
  cases h
  case flag => rw [serveFlag_frame]
  case reference => rw [applyReference_frame]
  case configured => rw [storeProfile_frame]
  case boundary => rw [closeAtBoundary, closeInterval_frame]
  case settled => rw [settleDay_frame]
  case taskServed => rw [serveTask_frame]
  case deferredTaskServed => rw [serveTask_frame]
  all_goals rfl

theorem Move.pending (h : Move c s₀ s t) : t.pending = s.pending := by
  cases h
  case effect h => exact h.pending
  case port p ps => cases p <;> rfl
  case reset =>
    rw [deviceReset_frame]
    rfl
  all_goals rfl

theorem exec_pending (h : exec c s = .next t) : t.pending = s.pending :=
  (exec_moves c h).keeps (P := fun u => u.pending = s.pending) (fun _ _ hs hm => hm.pending.trans hs) rfl

/-- Settles O1: by the definition of a step. -/
theorem stepRunsTheFrontCommand : Obligations.StepRunsTheFrontCommand :=
  ⟨fun c s => step_front { s with pending := c :: s.pending } c s.pending rfl, step_idle⟩

/-- Every arm of `exec` answers a next state. -/
theorem exec_next (c : Instr) (s : State) : ∃ t, exec c s = .next t := by
  cases c <;> exact ⟨_, rfl⟩

/-- Settles O2: every arm answers a next state, and no move touches the queue. -/
theorem everyCommandCompletes : Obligations.EveryCommandCompletes := by
  intro c s
  obtain ⟨t, ht⟩ := exec_next c s
  exact ⟨t, ht, exec_pending ht⟩

end Sys2Proof.Machine
end

section
/-! PROOF. What becomes of the count unit and of the refund journal in a command: the riders conserved (R98), and the log and
the journal within their sizes and consecutive (R90, R118). -/

namespace Sys2Proof.Machine

variable {c : Instr} {s₀ s t : State}

/-! ## The count unit -/

/-- What a move makes of the count unit: nothing, the taking of a count event, a release of the log, or a closing of the open
interval. -/
def CountMoved (u v : CountUnit) : Prop :=
  v = u ∨ (∃ ev, v = u.take ev) ∨ (∃ n, v = u.release n) ∨
    ∃ (s : State) (stop : Nat) (flag : IntervalFlags) (newStart heldAt : Nat),
      s.count = u ∧ v = (closeInterval s stop flag newStart heldAt).count

theorem CountMoved.closing (s : State) (stop : Nat) (flag : IntervalFlags) (newStart heldAt : Nat) :
    CountMoved s.count (closeInterval s stop flag newStart heldAt).count :=
  .inr (.inr (.inr ⟨s, stop, flag, newStart, heldAt, rfl, rfl⟩))

theorem applyReference_count (s : State) (tRef : Nat) (e : Int) (cse : ReferenceCase) :
    CountMoved s.count (applyReference s tRef e cse).count := by
  have hstep : CountMoved s.count (stepReference s tRef).count := by
    simp only [stepReference, post_count, settleDay_count]
    exact CountMoved.closing { s with timebase := (s.timebase.setTime tRef).accept } ..
  cases cse with
  | set =>
    simp only [applyReference, setReference, settleDay_count]
    exact CountMoved.closing ({ s with timebase := _ }.post (.timebase .locked true)) ..
  | slew =>
    simp only [applyReference, slewReference]
    split <;> exact .inl rfl
  | step => exact hstep
  | forced => exact hstep
  | refused => exact .inl rfl

/-- The parts of a stored profile that a cut reads besides the count unit: the profile as it is now (R94). -/
theorem storeProfile_count (s : State) (f : Profile) (trim : Int) :
    CountMoved s.count (storeProfile s f trim).count := by
  have hcut : CountMoved s.count (closeCut (withProfile s f trim)).count := CountMoved.closing (withProfile s f trim) ..
  obtain ⟨-, -, h⟩ | ⟨-, -, h⟩ | ⟨-, h⟩ := storeProfile_cases s f trim <;> rw [h]
  · exact .inl rfl
  · exact hcut
  · rwa [settleDay_count]

theorem Effect.count (h : Effect c s₀ s t) : CountMoved s.count t.count := by
  cases h
  case flag => rw [serveFlag_frame]; exact .inl rfl
  case logReleased n => exact .inr (.inr (.inl ⟨n, rfl⟩))
  case reference => exact applyReference_count ..
  case configured => exact storeProfile_count ..
  case boundary => exact CountMoved.closing ..
  case settled => exact .inl (settleDay_count s)
  case counted ev => exact .inr (.inl ⟨ev, rfl⟩)
  case taskServed => rw [serveTask_frame]; exact .inl rfl
  case deferredTaskServed => rw [serveTask_frame]; exact .inl rfl
  all_goals exact .inl rfl

theorem Move.count (h : Move c s₀ s t) : CountMoved s.count t.count := by
  cases h
  case effect h => exact h.count
  case port p ps => cases p <;> exact .inl rfl
  case reset => exact CountMoved.closing (resetBlocks s) ..
  all_goals exact .inl rfl

/-- A law of the count unit that a count event, a release and a closing keep is kept by every step. -/
theorem step_keeps_count {P : CountUnit → Prop} (htake : ∀ u ev, P u → P (u.take ev)) (hrelease : ∀ u n, P u → P (u.release n))
    (hclose : ∀ (s : State) stop flag newStart heldAt, P s.count → P (closeInterval s stop flag newStart heldAt).count)
    (hs : P s.count) (h : step s = .next t) : P t.count := by
  refine step_keeps (P := fun u => P u.count) (fun _ _ hu => hu) (fun c s₀ u v hu hm => ?_) hs h
  obtain heq | ⟨ev, heq⟩ | ⟨n, heq⟩ | ⟨w, stop, flag, a, b, hw, heq⟩ := hm.count <;> rw [heq]
  · exact hu
  · exact htake _ ev hu
  · exact hrelease _ n hu
  · exact hclose w stop flag a b (hw ▸ hu)

/-! ## Riders conserved -/

/-- The passed count of a lane after a count event, and its lifetime total, rise together (R85, R98). -/
theorem take_conserves {u : CountUnit} (ev : CountEvent) (h : u.conserves) : (u.take ev).conserves := by
  intro k
  have hk := h k
  cases ev with
  | passed j est | passedFree j est =>
    by_cases hj : j = k
    · subst hj
      simp only [CountUnit.take, Interval.add, Interval.mapLane, addLifetime, LaneCounts.mark, Vector.getElem_set_self]
      rw [hk]
      ac_rfl
    · have hne : j.val ≠ k.val := fun he => hj (Fin.ext he)
      simpa [CountUnit.take, Interval.add, Interval.mapLane, addLifetime, hne] using hk
  | balk j est | tailgate j est | reverse j est | refused j =>
    by_cases hj : j = k
    · subst hj
      simpa [CountUnit.take, Interval.add, Interval.mapLane, addLifetime, LaneCounts.mark] using hk
    · have hne : j.val ≠ k.val := fun he => hj (Fin.ext he)
      simpa [CountUnit.take, Interval.add, Interval.mapLane, addLifetime, hne] using hk
  | refund amount => exact hk

/-- A release moves the passed counts of the records it removes to the released totals (R97, R98). -/
theorem release_conserves {u : CountUnit} (n : Count32) (h : u.conserves) : (u.release n).conserves := by
  intro k
  have hsplit : passedIn k u.log = passedIn k (releasedRun u.log n) + passedIn k (u.release n).log := by
    rw [← passedIn_append]
    exact congrArg (passedIn k) List.takeWhile_append_dropWhile.symm
  have hk := h k
  rw [hsplit] at hk
  simp only [CountUnit.release, Vector.getElem_ofFn, Fin.eta] at hk ⊢
  rw [hk]
  ac_rfl

/-- A closing moves the passed counts of the open interval to the log, or leaves them (R88, R91). -/
theorem close_conserves {s : State} (stop : Nat) (flag : IntervalFlags) (newStart heldAt : Nat) (h : s.count.conserves) :
    (closeInterval s stop flag newStart heldAt).count.conserves := by
  intro k
  have hk := h k
  obtain ⟨-, heq⟩ | ⟨-, heq⟩ := closeInterval_cases s stop flag newStart heldAt <;> rw [heq]
  · simp only [passedIn_append, Interval.fresh, Interval.close, Vector.getElem_replicate]
    rw [hk]
    simp only [passedIn, List.foldr_cons, List.foldr_nil]
    ac_rfl
  · exact hk

/-- Settles O49: each change of the count unit moves counts and loses none. -/
theorem passedRidersAreConserved : Obligations.PassedRidersAreConserved := by
  intro s t hs h
  exact step_keeps_count (fun _ ev => take_conserves ev) (fun _ n => release_conserves n)
    (fun _ stop flag a b => close_conserves stop flag a b) hs h

/-! ## Consecutive numbers -/

@[simp] theorem consecutive_nil (next : Count32) : consecutive [] next = true := rfl

theorem consecutive_cons (n : Count32) (rest : List Count32) (next : Count32) :
    consecutive (n :: rest) next = true ↔ rest.headD next = n + 1 ∧ consecutive rest next = true := by
  cases rest with
  | nil =>
    change (n + 1 == next && consecutive [] next) = true ↔ _
    rw [Bool.and_eq_true, beq_iff_eq, List.headD_nil, eq_comm]
  | cons m rest =>
    rw [consecutive, Bool.and_eq_true, beq_iff_eq, List.headD_cons, eq_comm]

/-- The next number to be given, appended, is followed by the one after it (R90, R118). -/
theorem consecutive_append {ns : List Count32} {next : Count32} (h : consecutive ns next = true) :
    consecutive (ns ++ [next]) (next + 1) = true := by
  induction ns with
  | nil => simp [consecutive_cons]
  | cons n rest ih =>
    rw [consecutive_cons] at h
    rw [List.cons_append, consecutive_cons]
    refine ⟨?_, ih h.2⟩
    rw [← h.1]
    cases rest <;> rfl

/-- What is left behind a run removed from the front is consecutive. -/
theorem consecutive_suffix {ms ns : List Count32} {next : Count32} (h : ms <:+ ns) (hns : consecutive ns next = true) :
    consecutive ms next = true := by
  obtain ⟨front, rfl⟩ := h
  induction front with
  | nil => exact hns
  | cons n rest ih => exact ih ((consecutive_cons n _ next).mp hns).2

/-- The log's part of its law (R90). -/
def CountUnit.logLawful (u : CountUnit) : Prop :=
  u.log.length ≤ Config.logMax ∧ consecutive (u.log.map LogRecord.seq) u.nextSeq = true

theorem release_logLawful {u : CountUnit} (n : Count32) (h : u.logLawful) : (u.release n).logLawful := by
  have hsuffix : (u.release n).log <:+ u.log := List.dropWhile_suffix _
  exact ⟨hsuffix.length_le.trans h.1, consecutive_suffix (hsuffix.map _) h.2⟩

theorem close_logLawful {s : State} (stop : Nat) (flag : IntervalFlags) (newStart heldAt : Nat) (h : s.count.logLawful) :
    (closeInterval s stop flag newStart heldAt).count.logLawful := by
  obtain ⟨hroom, heq⟩ | ⟨-, heq⟩ := closeInterval_cases s stop flag newStart heldAt <;> rw [heq]
  · refine ⟨by simpa using hroom, ?_⟩
    simpa [Interval.close] using consecutive_append h.2
  · exact h

/-! ## The journal -/

/-- What a move makes of the journal and its next number: nothing, one record more with that number while there is room, or a
run removed from the front. -/
def JournalMoved (u v : RefundUnit) : Prop :=
  (v.journal <:+ u.journal ∧ v.nextSeq = u.nextSeq) ∨
    (u.journal.length < Config.journalMax ∧ ∃ j : JournalRecord, j.seq = u.nextSeq ∧ v.journal = u.journal ++ [j] ∧
      v.nextSeq = u.nextSeq + 1)

theorem JournalMoved.refl (u : RefundUnit) : JournalMoved u u := .inl ⟨List.suffix_refl _, rfl⟩

/-- Two refund units that differ in the tariff lock at most (R104). -/
def RefundUnit.SameButLock (u v : RefundUnit) : Prop := v = { u with locked := v.locked }

theorem settleDay_sameButLock (s : State) : s.refund.SameButLock (settleDay s).refund := by
  unfold RefundUnit.SameButLock
  rw [settleDay_frame]

theorem applyReference_sameButLock (s : State) (tRef : Nat) (e : Int) (cse : ReferenceCase) :
    s.refund.SameButLock (applyReference s tRef e cse).refund := by
  have hsettle (u : State) (hu : u.refund = s.refund) : s.refund.SameButLock (settleDay u).refund :=
    hu ▸ settleDay_sameButLock u
  cases cse with
  | set => exact hsettle _ (by simp)
  | slew =>
    simp only [applyReference, slewReference]
    split <;> rfl
  | step => exact hsettle _ (by simp)
  | forced => exact hsettle _ (by simp)
  | refused => rfl

theorem storeProfile_sameButLock (s : State) (f : Profile) (trim : Int) :
    s.refund.SameButLock (storeProfile s f trim).refund := by
  have hcut : (closeCut (withProfile s f trim)).refund = s.refund := closeInterval_refund ..
  obtain ⟨-, -, h⟩ | ⟨-, -, h⟩ | ⟨-, h⟩ := storeProfile_cases s f trim <;> rw [h]
  · rfl
  · rw [hcut]
    rfl
  · exact hcut ▸ settleDay_sameButLock (closeCut (withProfile s f trim))

theorem RefundUnit.SameButLock.journalMoved {u v : RefundUnit} (h : u.SameButLock v) : JournalMoved u v := by
  rw [h]
  exact .inl ⟨List.suffix_refl _, rfl⟩

theorem Effect.journal (h : Effect c s₀ s t) : JournalMoved s.refund t.refund := by
  cases h
  case flag => rw [serveFlag_frame]; exact .refl _
  case tariffPut => exact .inl ⟨List.suffix_refl _, rfl⟩
  case tariffLock => exact .inl ⟨List.suffix_refl _, rfl⟩
  case refunded p serial r j hrec hdays hroom hbusy =>
    exact .inr ⟨hroom, journalRecord s p r j (figuresFor (s.tariffOf r.ent.classNo) r j).amount, rfl, rfl, rfl⟩
  case journalReleased n => exact .inl ⟨List.dropWhile_suffix _, rfl⟩
  case reference => exact (applyReference_sameButLock ..).journalMoved
  case configured => exact (storeProfile_sameButLock ..).journalMoved
  case boundary => rw [closeAtBoundary, closeInterval_frame]; exact .refl _
  case settled => exact (settleDay_sameButLock s).journalMoved
  case taskServed => rw [serveTask_frame]; exact .refl _
  case deferredTaskServed => rw [serveTask_frame]; exact .refl _
  all_goals exact .refl _

theorem Move.journal (h : Move c s₀ s t) : JournalMoved s.refund t.refund := by
  cases h
  case effect h => exact h.journal
  case port p ps => cases p <;> exact .refl _
  case reset => rw [deviceReset_frame]; exact .refl _
  all_goals exact .refl _

/-- A record with the next number, or a run removed from the front, keeps the journal's law (R118, R120). -/
theorem JournalMoved.keeps {u v : RefundUnit} (h : JournalMoved u v)
    (hu : u.journal.length ≤ Config.journalMax ∧ consecutive (u.journal.map JournalRecord.seq) u.nextSeq = true) :
    v.journal.length ≤ Config.journalMax ∧ consecutive (v.journal.map JournalRecord.seq) v.nextSeq = true := by
  obtain ⟨hsuffix, hseq⟩ | ⟨hroom, j, hj, hjournal, hseq⟩ := h
  · rw [hseq]
    exact ⟨hsuffix.length_le.trans hu.1, consecutive_suffix (hsuffix.map _) hu.2⟩
  · rw [hjournal, hseq]
    refine ⟨by simpa using hroom, ?_⟩
    simpa [hj] using consecutive_append hu.2

/-- Settles O37: the log changes by closings and releases, the journal by refunds and releases. -/
theorem logAndJournalStayConsecutive : Obligations.LogAndJournalStayConsecutive := by
  refine ⟨fun s t hs h => ?log, fun s t hs h => ?journal⟩
  case log =>
    exact step_keeps_count (P := CountUnit.logLawful) (fun _ _ hu => hu) (fun _ n => release_logLawful n)
      (fun _ stop flag a b => close_logLawful stop flag a b) hs h
  case journal =>
    exact step_keeps (P := JournalLaw) (fun _ _ hu => hu) (fun _ _ _ _ hu hm => hm.journal.keeps hu) hs h

end Sys2Proof.Machine
end

section
/-! PROOF. What becomes of the timebase and of the profile in a command: their ranges (R139, R172), and station time that does
not fall but by a device reset or a forced reference (R140). -/

namespace Sys2Proof.Machine

variable {c : Instr} {s₀ s t : State}

/-! ## References -/

/-- The timebase as a reference of a case leaves it, but for the stored current day (R144 to R147). -/
def Timebase.referred (b : Timebase) (tRef : Nat) (e : Int) (elapsed : Nat) : ReferenceCase → Timebase
  | .set =>
    (if -Config.slewRange ≤ e ∧ e < 0 then { b.slewBy e elapsed with lastKnown := b.time } else b.setTime tRef).accept
  | .slew => ({ b with trim := tunedTrim b e }.slewBy e elapsed).accept
  | .step => (b.setTime tRef).accept
  | .forced => (b.setTime tRef).accept
  | .refused => b

/-- The day comparison changes the stored current day at most, to the derived day (R150, R151). -/
theorem settleDay_timebase (s : State) :
    ∃ d, (settleDay s).timebase = { s.timebase with currentDay := d } ∧ (d = s.timebase.currentDay ∨ d = s.derivedDay) := by
  unfold settleDay
  split
  · exact ⟨s.derivedDay, rfl, .inr rfl⟩
  · exact ⟨s.timebase.currentDay, rfl, .inl rfl⟩

theorem applyReference_timebase (s : State) (tRef : Nat) (e : Int) (cse : ReferenceCase) :
    ∃ d, (applyReference s tRef e cse).timebase = { s.timebase.referred tRef e s.elapsed cse with currentDay := d } ∧
      (d = s.timebase.currentDay ∨ ∃ x, d = operatingDay s.profile.rollover x) := by
  have hsettle (u : State) (b : Timebase) (htimebase : u.timebase = b) (hday : b.currentDay = s.timebase.currentDay)
      (hprofile : u.profile = s.profile) :
      ∃ d, (settleDay u).timebase = { b with currentDay := d } ∧
        (d = s.timebase.currentDay ∨ ∃ x, d = operatingDay s.profile.rollover x) := by
    obtain ⟨d, hd, hcase⟩ := settleDay_timebase u
    rw [htimebase] at hd hcase
    rw [State.derivedDay, hprofile] at hcase
    exact ⟨d, hd, hcase.imp (fun h => h.trans hday) fun h => ⟨_, h⟩⟩
  have hprofile (u : State) (before after : Nat) : (closeStepped u before after).profile = u.profile := by
    rw [closeStepped, closeInterval_frame]
  cases cse with
  | refused => exact ⟨_, rfl, .inl rfl⟩
  | slew =>
    refine ⟨s.timebase.currentDay, ?_, .inl rfl⟩
    simp only [applyReference, slewReference]
    split <;> rfl
  | set =>
    refine hsettle _ _ (closeStepped_timebase ..) ?_ (hprofile ..)
    change (if -Config.slewRange ≤ e ∧ e < 0 then _ else _ : Timebase).currentDay = _
    split <;> rfl
  | step => exact hsettle _ _ (closeStepped_timebase ..) rfl (hprofile ..)
  | forced => exact hsettle _ _ (closeStepped_timebase ..) rfl (hprofile ..)

/-- The offsets of each case (R143, R144, R147). -/
theorem referenceCase_bounds (status : TimebaseStatus) (e : Int) (force : Bool) :
    match referenceCase status e force with
    | .set => status = .unset ∧ (force = false → -2000 ≤ e)
    | .slew => -2000 ≤ e ∧ e ≤ 2000
    | .step => 2000 < e
    | .forced => force = true
    | .refused => True := by
  unfold referenceCase Config.slewRange
  by_cases hfar : e < -2000 <;> by_cases hnear : e ≤ 2000 <;> cases force <;> cases status <;> simp [hfar, hnear] <;> omega

/-- What bytes spell fits their number (R166). -/
theorem ofBytes_lt (bs : List Byte) : ofBytes bs < 256 ^ bs.length := by
  induction bs with
  | nil => simp [ofBytes]
  | cons b rest ih =>
    rw [ofBytes_cons, List.length_cons, pow_succ']
    have hb : b.toNat + 1 ≤ 256 := b.isLt
    calc b.toNat * 256 ^ rest.length + ofBytes rest
        < b.toNat * 256 ^ rest.length + 256 ^ rest.length := Nat.add_lt_add_left ih _
      _ = (b.toNat + 1) * 256 ^ rest.length := by ring
      _ ≤ 256 * 256 ^ rest.length := Nat.mul_le_mul_right _ hb

/-- What the bytes of a field spell fits the field. -/
theorem ofBytes_take_lt (n : Nat) (bs : List Byte) : ofBytes (bs.take n) < 256 ^ n :=
  (ofBytes_lt _).trans_le (Nat.pow_le_pow_right (by decide) (List.length_take_le n bs))

theorem eq_one_of_boolOfByte {b : Byte} (h : boolOfByte b = some true) : b = 1 := by
  unfold boolOfByte at h
  split_ifs at h with hzero hone
  · cases h
  · exact hone

theorem lt_of_referenceBody {body : List Byte} {tRef : Nat} {force : Bool}
    (h : referenceBody body = some (tRef, force)) :
    tRef < 2 ^ 40 ∧ (force = true → body.getD 5 0 = 1) := by
  unfold referenceBody at h
  split_ifs at h
  obtain ⟨b, hb, heq⟩ := Option.map_eq_some_iff.mp h
  obtain ⟨rfl, rfl⟩ := Prod.mk.inj heq
  exact ⟨ofBytes_take_lt 5 _, fun htrue => eq_one_of_boolOfByte (hb.trans (congrArg some htrue))⟩

/-! ## The ranges of the timebase -/

theorem operatingDay_le (rollover x : Nat) : operatingDay rollover x ≤ Config.dayMax := by
  unfold operatingDay
  split
  · exact Nat.zero_le _
  · exact Nat.min_le_left ..

theorem clampTrim_range (v : Int) : -250 ≤ clampTrim v ∧ clampTrim v ≤ 250 := by
  unfold clampTrim Config.trimMax
  omega

theorem tunedTrim_range {b : Timebase} (e : Int) (h : -250 ≤ b.trim ∧ b.trim ≤ 250) :
    -250 ≤ tunedTrim b e ∧ tunedTrim b e ≤ 250 := by
  unfold tunedTrim
  split
  · exact h
  · dsimp only
    split
    · exact clampTrim_range _
    · exact h

/-- A current day in its range keeps the ranges of the timebase. -/
theorem Timebase.lawful.withDay {b : Timebase} {d : Nat} (h : b.lawful) (hd : d ≤ Config.dayMax) :
    ({ b with currentDay := d } : Timebase).lawful := by
  obtain ⟨htime, hfraction, htrim, hcorrection, hage, hmark, -, hknown⟩ := h
  exact ⟨htime, hfraction, htrim, hcorrection, hage, hmark, hd, hknown⟩

theorem Timebase.lawful.withTrim {b : Timebase} {trim : Int} (h : b.lawful) (ht : -250 ≤ trim ∧ trim ≤ 250) :
    ({ b with trim := trim } : Timebase).lawful := by
  obtain ⟨htime, hfraction, -, hrest⟩ := h
  exact ⟨htime, hfraction, ht, hrest⟩

/-- An accepted reference has an age and a mark, and the timebase is LOCKED (R142). -/
theorem Timebase.accept_lawful {b : Timebase} (htime : b.time ≤ Config.timeMax) (hfraction : b.fraction < 1000000)
    (htrim : -250 ≤ b.trim ∧ b.trim ≤ 250) (hcorrection : -2000 ≤ b.correction ∧ b.correction ≤ 2000)
    (hday : b.currentDay ≤ Config.dayMax) (hknown : b.lastKnown ≤ Config.timeMax) : b.accept.lawful :=
  ⟨htime, hfraction, htrim, hcorrection, by simp [Timebase.accept], by simp [Timebase.accept], hday, hknown⟩

theorem Timebase.referred_lawful {b : Timebase} {tRef : Nat} (force : Bool) (elapsed : Nat) (h : b.lawful)
    (href : tRef < 2 ^ 40) :
    let e : Int := (tRef : Int) - b.time
    (b.referred tRef e elapsed (referenceCase b.status e force)).lawful := by
  intro e
  obtain ⟨htime, hfraction, htrim, hcorrection, hage, hmark, hday, hknown⟩ := h
  have href' : tRef ≤ Config.timeMax := Nat.le_sub_one_of_lt href
  have hset : (b.setTime tRef).accept.lawful :=
    Timebase.accept_lawful href' hfraction htrim (by simp [Timebase.setTime]) hday href'
  have hbounds := referenceCase_bounds b.status e force
  cases hcase : referenceCase b.status e force with
  | set =>
    unfold Timebase.referred
    dsimp only
    split
    · rename_i hsmall
      have hsmall' : -2000 ≤ e ∧ e < 0 := hsmall
      exact Timebase.accept_lawful htime hfraction htrim ⟨hsmall'.1, by dsimp only [Timebase.slewBy]; omega⟩ hday htime
    · exact hset
  | slew =>
    rw [hcase] at hbounds
    exact Timebase.accept_lawful htime hfraction (tunedTrim_range e htrim) hbounds hday hknown
  | step => exact hset
  | forced => exact hset
  | refused => exact ⟨htime, hfraction, htrim, hcorrection, hage, hmark, hday, hknown⟩

theorem risen_le (x rises : Nat) : risen x rises ≤ Config.timeMax := Nat.min_le_left ..

theorem le_risen {x : Nat} (h : x ≤ Config.timeMax) (rises : Nat) : x ≤ risen x rises := by
  unfold risen
  omega

theorem Timebase.tick_lawful {b : Timebase} (h : b.lawful) : b.tick.lawful := by
  obtain ⟨-, -, htrim, hcorrection, hage, hmark, hday, hknown⟩ := h
  refine ⟨risen_le .., Nat.mod_lt _ (by decide), htrim, hcorrection, ?_, hmark, hday, hknown⟩
  simpa [Timebase.tick] using hage

theorem Timebase.slew_lawful {b : Timebase} (hne : b.correction ≠ 0) (h : b.lawful) : b.slew.lawful := by
  have hne' : b.correction < 0 ∨ 0 < b.correction := lt_or_gt_of_ne hne
  obtain ⟨htime, hfraction, htrim, hcorrection, hage, hmark, hday, hknown⟩ := h
  unfold Timebase.slew
  split
  · exact ⟨risen_le .., hfraction, htrim, by dsimp only; omega, hage, hmark, hday, hknown⟩
  · exact ⟨htime, hfraction, htrim, by dsimp only; omega, hage, hmark, hday, hknown⟩

theorem Timebase.reset_lawful {b : Timebase} (h : b.lawful) :
    (Timebase.reset b.trim b.currentDay b.lastKnown).lawful := by
  obtain ⟨-, -, htrim, -, -, -, hday, hknown⟩ := h
  exact ⟨hknown, Nat.zero_lt_succ _, htrim, by simp [Timebase.reset], by simp [Timebase.reset], by simp [Timebase.reset], hday,
    hknown⟩

theorem configuredTrim_range {trim : Int} (items : List ConfigItem) (h : -250 ≤ trim ∧ trim ≤ 250) :
    -250 ≤ configuredTrim trim items ∧ configuredTrim trim items ≤ 250 := by
  unfold configuredTrim
  induction items generalizing trim with
  | nil => exact h
  | cons x rest ih =>
    refine ih ?_
    unfold storeTrim
    split
    · exact clampTrim_range _
    · exact h

theorem settleDay_lawful (h : s.timebase.lawful) : (settleDay s).timebase.lawful := by
  obtain ⟨d, hd, hcase⟩ := settleDay_timebase s
  rw [hd]
  refine h.withDay ?_
  obtain rfl | rfl := hcase
  · exact h.2.2.2.2.2.2.1
  · exact operatingDay_le ..

theorem storeProfile_lawful (f : Profile) {trim : Int} (ht : -250 ≤ trim ∧ trim ≤ 250) (h : s.timebase.lawful) :
    (storeProfile s f trim).timebase.lawful := by
  have hcut : (closeCut (withProfile s f trim)).timebase.lawful := by
    rw [closeCut, closeInterval_timebase]
    exact h.withTrim ht
  obtain ⟨-, -, heq⟩ | ⟨-, -, heq⟩ | ⟨-, heq⟩ := storeProfile_cases s f trim <;> rw [heq]
  · exact h.withTrim ht
  · exact hcut
  · exact settleDay_lawful hcut

theorem Effect.timebase_lawful (h : Effect c s₀ s t) (hs : s.timebase.lawful) : t.timebase.lawful := by
  cases h
  case flag => rwa [serveFlag_frame]
  case reference body tRef force hc hbody =>
    obtain ⟨d, hd, hcase⟩ := applyReference_timebase s tRef ((tRef : Int) - s.timebase.time)
      (referenceCase s.timebase.status ((tRef : Int) - s.timebase.time) force)
    rw [hd]
    refine (Timebase.referred_lawful force s.elapsed hs (lt_of_referenceBody hbody).1).withDay ?_
    obtain rfl | ⟨x, rfl⟩ := hcase
    · exact hs.2.2.2.2.2.2.1
    · exact operatingDay_le ..
  case configured body items hbody hlanes _ => exact storeProfile_lawful _ (configuredTrim_range items hs.2.2.1) hs
  case ran => exact Timebase.tick_lawful hs
  case slewed hne => exact Timebase.slew_lawful hne hs
  case freed hlocked =>
    obtain ⟨htime, hfraction, htrim, hcorrection, hage, hmark, hday, hknown⟩ := hs
    rw [hlocked] at hage hmark
    exact ⟨htime, hfraction, htrim, hcorrection, by simpa using hage, by simpa using hmark, hday, hknown⟩
  case lastKnown due =>
    obtain ⟨htime, hfraction, htrim, hcorrection, hage, hmark, hday, -⟩ := hs
    exact ⟨htime, hfraction, htrim, hcorrection, hage, hmark, hday, htime⟩
  case boundary => rwa [closeAtBoundary, closeInterval_frame]
  case settled => exact settleDay_lawful hs
  case taskServed => rwa [serveTask_frame]
  case deferredTaskServed => rwa [serveTask_frame]
  all_goals exact hs

theorem Move.timebase_lawful (h : Move c s₀ s t) (hs : s.timebase.lawful) : t.timebase.lawful := by
  cases h
  case effect h => exact h.timebase_lawful hs
  case port p ps => cases p <;> exact hs
  case reset =>
    rw [deviceReset_frame]
    exact Timebase.reset_lawful hs
  all_goals exact hs

/-! ## The ranges of the profile -/

/-- The value of an item fits the field's width (R173). -/
def ConfigItem.fits (i : ConfigItem) : Prop := i.field = .stationId → i.value ≤ 65535

theorem clampRange_mem {lo hi : Nat} (h : lo ≤ hi) (v : Int) : lo ≤ clampRange lo hi v ∧ clampRange lo hi v ≤ hi := by
  unfold clampRange
  omega

theorem clampInterval_mem (v : Int) : clampInterval v ∈ [5, 10, 15, 20, 30, 60] := by
  unfold clampInterval
  split_ifs <;> decide

/-- The ranges of the profile that a single item keeps; that the pass timeout is not below the pulse length is restored after
the last (R172, R173). -/
def Profile.ranged (f : Profile) : Prop :=
  f.lanesEnabled ≤ 6 ∧ (∀ l : LiftId, f.zoneOf[l.val] ≤ 15) ∧ (∀ l : LiftId, f.passback[l.val] ≤ 3600) ∧
    (100 ≤ f.pulse ∧ f.pulse ≤ 5000) ∧ (2 ≤ f.passTimeout ∧ f.passTimeout ≤ 60) ∧
    f.intervalMinutes ∈ [5, 10, 15, 20, 30, 60] ∧ f.rollover ≤ 1439 ∧ f.stationId ≤ 65535

theorem Profile.store_ranged {f : Profile} {i : ConfigItem} (hi : i.fits) (h : f.ranged) : (f.store i).ranged := by
  obtain ⟨hlanes, hzone, hpassback, hpulse, htimeout, hinterval, hrollover, hstation⟩ := h
  obtain ⟨field, v⟩ := i
  cases field with
  | lanesEnabled =>
    exact ⟨(clampRange_mem (Nat.zero_le 6) v).2, hzone, hpassback, hpulse, htimeout, hinterval, hrollover, hstation⟩
  | zone l =>
    refine ⟨hlanes, fun j => ?_, hpassback, hpulse, htimeout, hinterval, hrollover, hstation⟩
    simp only [Profile.store, Vector.getElem_set]
    split
    · exact (clampRange_mem (Nat.zero_le 15) v).2
    · exact hzone j
  | passback l =>
    refine ⟨hlanes, hzone, fun j => ?_, hpulse, htimeout, hinterval, hrollover, hstation⟩
    simp only [Profile.store, Vector.getElem_set]
    split
    · exact (clampRange_mem (Nat.zero_le 3600) v).2
    · exact hpassback j
  | pulse => exact ⟨hlanes, hzone, hpassback, clampRange_mem (by decide) v, htimeout, hinterval, hrollover, hstation⟩
  | passTimeout => exact ⟨hlanes, hzone, hpassback, hpulse, clampRange_mem (by decide) v, hinterval, hrollover, hstation⟩
  | interval => exact ⟨hlanes, hzone, hpassback, hpulse, htimeout, clampInterval_mem v, hrollover, hstation⟩
  | rollover =>
    exact ⟨hlanes, hzone, hpassback, hpulse, htimeout, hinterval, (clampRange_mem (Nat.zero_le 1439) v).2, hstation⟩
  | stationId =>
    have hv : v ≤ 65535 := hi rfl
    exact ⟨hlanes, hzone, hpassback, hpulse, htimeout, hinterval, hrollover, Int.toNat_le.mpr hv⟩
  | lift k | mode k | policy | trim =>
    exact ⟨hlanes, hzone, hpassback, hpulse, htimeout, hinterval, hrollover, hstation⟩

theorem Profile.foldl_store_ranged {items : List ConfigItem} (hi : ∀ i ∈ items, i.fits) {f : Profile} (h : f.ranged) :
    (items.foldl Profile.store f).ranged := by
  induction items generalizing f with
  | nil => exact h
  | cons x rest ih =>
    obtain ⟨hx, hrest⟩ := List.forall_mem_cons.mp hi
    exact ih hrest (Profile.store_ranged hx h)

theorem Profile.raiseTimeout_lawful {f : Profile} (h : f.ranged) : f.raiseTimeout.lawful := by
  obtain ⟨hlanes, hzone, hpassback, hpulse, htimeout, hinterval, hrollover, hstation⟩ := h
  unfold Profile.raiseTimeout
  split
  · exact ⟨hlanes, hzone, hpassback, hpulse, by dsimp only; omega, hinterval, hrollover, hstation, by dsimp only; omega⟩
  · exact ⟨hlanes, hzone, hpassback, hpulse, htimeout, hinterval, hrollover, hstation, by omega⟩

theorem Profile.lawful.ranged {f : Profile} (h : f.lawful) : f.ranged := by
  obtain ⟨hlanes, hzone, hpassback, hpulse, htimeout, hinterval, hrollover, hstation, -⟩ := h
  exact ⟨hlanes, hzone, hpassback, hpulse, htimeout, hinterval, hrollover, hstation⟩

theorem fits_of_configItems {fuel : Nat} {body : List Byte} {items : List ConfigItem}
    (h : configItems fuel body = some items) : ∀ i ∈ items, i.fits := by
  induction fuel, body using configItems.induct generalizing items with
  | case1 =>
    simp only [configItems, Option.some.injEq] at h
    subst h
    simp
  | case2 => simp [configItems] at h
  | case3 fuel code index rest hf => simp [configItems, hf] at h
  | case4 fuel code index rest f hf hshort => simp [configItems, hf, hshort] at h
  | case5 fuel code index rest f hf hlong hrec _ => simp [configItems, hf, hlong, hrec] at h
  | case6 fuel code index rest f hf hlong items' hrec ih =>
    simp only [configItems, hf, hlong, hrec, if_false, Option.some.injEq] at h
    subst h
    refine List.forall_mem_cons.mpr ⟨fun hfield => ?_, ih hrec⟩
    dsimp only at hfield
    subst hfield
    have hlt : ofBytes (rest.take 2) < 256 ^ 2 := ofBytes_take_lt 2 rest
    simp only [itemValue, ProfileField.width]
    omega
  | case7 => simp_all [configItems]

theorem fits_of_configureBody {body : List Byte} {items : List ConfigItem} (h : configureBody body = some items) :
    ∀ i ∈ items, i.fits := by
  unfold configureBody at h
  split at h
  · cases h
  · split at h
    · cases h
    · cases h
      exact fits_of_configItems ‹_›

theorem Effect.profile (h : Effect c s₀ s t) :
    t.profile = s.profile ∨ ∃ body items, configureBody body = some items ∧ t.profile = s.profile.configured items := by
  cases h
  case flag => rw [serveFlag_frame]; exact .inl rfl
  case reference => rw [applyReference_frame]; exact .inl rfl
  case configured body items hbody hlanes _ =>
    refine .inr ⟨body, items, hbody, ?_⟩
    rw [storeProfile_frame]
  case boundary => rw [closeAtBoundary, closeInterval_frame]; exact .inl rfl
  case settled => exact .inl (settleDay_profile s)
  case taskServed => rw [serveTask_frame]; exact .inl rfl
  case deferredTaskServed => rw [serveTask_frame]; exact .inl rfl
  all_goals exact .inl rfl

theorem Move.profile_lawful (h : Move c s₀ s t) (hs : s.profile.lawful) : t.profile.lawful := by
  cases h
  case effect h =>
    obtain heq | ⟨body, items, hbody, heq⟩ := h.profile <;> rw [heq]
    · exact hs
    · exact Profile.raiseTimeout_lawful (Profile.foldl_store_ranged (fits_of_configureBody hbody) hs.ranged)
  case port p ps => cases p <;> exact hs
  case reset => rwa [deviceReset_frame]
  all_goals exact hs

/-- Settles O55: every move keeps the ranges of the timebase and of the profile. -/
theorem timebaseAndProfileStayInRange : Obligations.TimebaseAndProfileStayInRange := by
  intro s t htimebase hprofile h
  exact step_keeps (P := fun u => u.timebase.lawful ∧ u.profile.lawful) (fun _ _ hu => hu)
    (fun _ _ _ _ hu hm => ⟨hm.timebase_lawful hu.1, hm.profile_lawful hu.2⟩) ⟨htimebase, hprofile⟩ h

/-! ## Station time -/

theorem Timebase.le_referred_time {b : Timebase} {tRef : Nat} (elapsed : Nat) :
    let e : Int := (tRef : Int) - b.time
    b.time ≤ (b.referred tRef e elapsed (referenceCase b.status e false)).time := by
  intro e
  have hbounds := referenceCase_bounds b.status e false
  cases hcase : referenceCase b.status e false with
  | set =>
    rw [hcase] at hbounds
    have hfar : -2000 ≤ e := hbounds.2 rfl
    unfold Timebase.referred Config.slewRange
    dsimp only [Timebase.accept]
    split
    · exact le_rfl
    · dsimp only [Timebase.setTime]
      omega
  | slew => exact le_rfl
  | step =>
    rw [hcase] at hbounds
    dsimp only at hbounds
    dsimp only [Timebase.referred, Timebase.accept, Timebase.setTime]
    omega
  | forced => simp [hcase] at hbounds
  | refused => exact le_rfl

theorem Timebase.referred_time_le {b : Timebase} {tRef : Nat} {e : Int} (elapsed : Nat) (cse : ReferenceCase)
    (h : b.time ≤ Config.timeMax) (href : tRef ≤ Config.timeMax) : (b.referred tRef e elapsed cse).time ≤ Config.timeMax := by
  cases cse with
  | set =>
    unfold Timebase.referred
    dsimp only [Timebase.accept]
    split
    · exact h
    · exact href
  | slew => exact h
  | step => exact href
  | forced => exact href
  | refused => exact h

/-- Station time within its range, and not below what it was when the command came. -/
def TimeKept (s₀ s : State) : Prop := s₀.timebase.time ≤ s.timebase.time ∧ s.timebase.time ≤ Config.timeMax

theorem Effect.timeKept (hc : ∀ p tag body, c = .timeReference p tag body → body.getD 5 0 ≠ 1) (h : Effect c s₀ s t)
    (hs : TimeKept s₀ s) : TimeKept s₀ t := by
  have hrise {u : State} (hu : s.timebase.time ≤ u.timebase.time) (hmax : u.timebase.time ≤ Config.timeMax) :
      TimeKept s₀ u := ⟨hs.1.trans hu, hmax⟩
  have hsame {u : State} (hu : u.timebase.time = s.timebase.time) : TimeKept s₀ u := by
    rw [TimeKept, hu]
    exact hs
  cases h
  case flag => rwa [serveFlag_frame]
  case reference body tRef force hcmd hbody =>
    obtain ⟨d, hd, -⟩ := applyReference_timebase s tRef ((tRef : Int) - s.timebase.time)
      (referenceCase s.timebase.status ((tRef : Int) - s.timebase.time) force)
    obtain ⟨p, tag, hcmd⟩ := hcmd
    obtain ⟨href, hforce⟩ := lt_of_referenceBody hbody
    obtain rfl : force = false := Bool.eq_false_iff.mpr fun hf => hc p tag body hcmd (hforce hf)
    refine hrise ?_ ?_ <;> rw [hd]
    · exact Timebase.le_referred_time s.elapsed
    · exact Timebase.referred_time_le s.elapsed _ hs.2 (Nat.le_sub_one_of_lt href)
  case configured body items hbody hlanes _ =>
    refine hsame ?_
    obtain ⟨-, -, heq⟩ | ⟨-, -, heq⟩ | ⟨-, heq⟩ :=
      storeProfile_cases s (s.profile.configured items) (configuredTrim s.timebase.trim items) <;> rw [heq]
    · rfl
    · rw [closeCut, closeInterval_timebase]; rfl
    · rw [settleDay_time, closeCut, closeInterval_timebase]; rfl
  case ran => exact hrise (le_risen hs.2 _) (risen_le ..)
  case slewed hne =>
    by_cases hpos : 0 < s.timebase.correction
    · refine hrise ?_ ?_ <;> simp only [Timebase.slew, hpos, if_true]
      · exact le_risen hs.2 _
      · exact risen_le ..
    · refine hsame ?_
      simp [Timebase.slew, hpos]
  case boundary => rwa [closeAtBoundary, closeInterval_frame]
  case settled => exact hsame (settleDay_time s)
  case taskServed => rwa [serveTask_frame]
  case deferredTaskServed => rwa [serveTask_frame]
  all_goals exact hsame rfl

/-- Settles O54: of the moves a device reset and a reference with the force mark alone set station time back. -/
theorem stationTimeNeverDecreases : Obligations.StationTimeNeverDecreases := by
  intro c s t h hmax hreset hdue hperiod hforce
  refine ((exec_moves c h).keeps (P := TimeKept s) (fun u v hu hm => ?_) ⟨le_rfl, hmax⟩).1
  cases hm
  case effect he => exact he.timeKept hforce hu
  case port p ps => cases p <;> exact hu
  case reset hc =>
    obtain hc | hc | ⟨p, hc⟩ := hc
    · exact absurd hc hreset
    · exact absurd hc hdue
    · exact absurd hc (hperiod p)
  all_goals exact hu

end Sys2Proof.Machine
end

section
/-! PROOF. What the events of a lane leave: its entries and the tasks they hand over, its current state, its output and its error
indication (chapter 4). -/

namespace Sys2Proof.Machine

variable {c : Instr} {s₀ s t : State}

/-! ## The law of a lane in two parts -/

/-- The law of a lane's list and of its output (R56, R63, R64, R71). -/
abbrev Lane.listLawful (l : Lane) (mode : ReleaseMode) : Prop :=
  l.inflight.length ≤ Config.inFlightMax ∧
  (l.current = .shut ∨ l.current = .observe → l.inflight = []) ∧
  (∀ e ∈ l.inflight.tail, e.released = false) ∧
  (l.current = .self → l.inflight ≠ [] → l.headReleased = true) ∧
  (l.output = true → l.current = .observe ∨ l.headReleased = true) ∧
  (l.current = .observe → l.output = true) ∧
  (mode = .held → l.headReleased = true → l.output = true)

/-- The law of a lane's error indication and score (R59, R60, R80). -/
abbrev Lane.errorLawful (l : Lane) : Prop :=
  (l.errorFlag = true → l.current = .shut ∨ l.current = .attended) ∧
  (l.errorFlag = (l.causeSensor || l.causeLink)) ∧
  (l.firstCause = none ↔ l.errorFlag = false) ∧
  (l.firstCause = some .sensorFailed → l.causeSensor = true) ∧
  (l.firstCause = some .linkReset → l.causeLink = true) ∧
  l.score ≤ Config.scoreMax

theorem Lane.lawful_iff (l : Lane) (mode : ReleaseMode) : l.lawful mode ↔ l.listLawful mode ∧ l.errorLawful := by
  unfold Lane.lawful Lane.listLawful Lane.errorLawful
  simp only [and_assoc]

/-! ## What an event leaves of the lane -/

variable {lc : LaneCtx} {l : Lane} {mode : ReleaseMode}

@[simp] theorem withStatePost_lane (before : Lane) (o : LaneOut) : (withStatePost lc before o).lane = o.lane := by
  unfold withStatePost
  split <;> rfl

@[simp] theorem withStatePost_tasks (before : Lane) (o : LaneOut) : (withStatePost lc before o).tasks = o.tasks := by
  unfold withStatePost
  split <;> rfl

@[simp] theorem causeEvent_lane (cause : ErrorCause) : (causeEvent lc cause l).lane = raiseCause cause l :=
  withStatePost_lane ..

/-- The list that follows a head that has left changes the list and the output (R64, R71). -/
theorem settleHead_lane (es : List Entry) :
    (settleHead lc l es).lane =
      { l with inflight := (settleHead lc l es).lane.inflight, output := (settleHead lc l es).lane.output } := by
  induction es with
  | nil => rfl
  | cons e rest ih =>
    unfold settleHead
    split_ifs
    · rfl
    · exact ih
    · rfl

theorem balkHead_lane :
    (balkHead lc l).lane =
      { l with inflight := (balkHead lc l).lane.inflight, output := (balkHead lc l).lane.output } := by
  unfold balkHead
  cases l.inflight with
  | nil => rfl
  | cons e rest => exact settleHead_lane rest

theorem completeHead_lane :
    (completeHead lc l).lane =
      { l with inflight := (completeHead lc l).lane.inflight, output := (completeHead lc l).lane.output } := by
  unfold completeHead
  cases l.inflight with
  | nil => rfl
  | cons e rest => exact settleHead_lane rest

theorem joinEntry_lane (e : Entry) :
    (joinEntry lc l e).lane =
      { l with inflight := (joinEntry lc l e).lane.inflight, output := (joinEntry lc l e).lane.output } := by
  unfold joinEntry
  split
  · exact settleHead_lane [e]
  · rfl

/-- Only a RELEASED head in SELF or ATTENDED completes; otherwise a forward rotation leaves the lane (R76). -/
theorem pairForward_cases :
    (pairForward lc l).lane = l ∧ (pairForward lc l).tasks = [] ∨
      (l.current = .self ∨ l.current = .attended) ∧ pairForward lc l = completeHead lc l := by
  unfold pairForward
  split_ifs with hobserve
  · exact .inl ⟨rfl, rfl⟩
  · split
    · rename_i hself hlist
      split
      · exact .inr ⟨.inl hself, rfl⟩
      · exact .inl ⟨rfl, rfl⟩
    · rename_i hattended hlist
      split
      · exact .inr ⟨.inr hattended, rfl⟩
      · exact .inl ⟨rfl, rfl⟩
    · exact .inl ⟨rfl, rfl⟩

/-- A score that moves into FAILED raises a cause; any other change of the score is one of the score alone (R80). -/
theorem setScore_lane (n : Nat) :
    (setScore lc l n).lane = { l with score := n } ∨
      (setScore lc l n).lane = raiseCause .sensorFailed { l with score := n } := by
  unfold setScore
  dsimp only
  split_ifs
  · exact .inl rfl
  · exact .inr (causeEvent_lane _)
  · exact .inl rfl

@[simp] theorem setScore_tasks (n : Nat) : (setScore lc l n).tasks = [] := by
  unfold setScore
  dsimp only
  split_ifs
  · rfl
  · exact causeEvent_tasks ..
  · rfl

/-- The lane as a rising edge it takes leaves it before the score and the pairing (R73, R74, R80). -/
def edgeLane (lc : LaneCtx) (l : Lane) (x : ArmSensor) : Lane :=
  { l.setSensor x
      { l.sensor x with level := true, lastRise := lc.time, stuck := some { mark := lc.elapsed, counted := false } } with
    sequencer := (sequence l.sequencer x lc.elapsed).1 }

/-- What a rising edge is, by what the sequencer makes of it (R74, R76, R77, R80). -/
theorem risingEdge_cases (lc : LaneCtx) (l : Lane) (x : ArmSensor) :
    ((sequence l.sequencer x lc.elapsed).2 = .moved ∧ risingEdge lc l x = { lane := edgeLane lc l x }) ∨
    ((sequence l.sequencer x lc.elapsed).2 = .implausible ∧
      risingEdge lc l x = raiseScore lc (edgeLane lc l x) Config.implausibleScore) ∨
    ((sequence l.sequencer x lc.elapsed).2 = .forward ∧
      risingEdge lc l x = (lowerScore lc (edgeLane lc l x)).andThen (pairForward lc)) ∨
    ((sequence l.sequencer x lc.elapsed).2 = .reverse ∧
      risingEdge lc l x = (lowerScore lc (edgeLane lc l x)).andThen (pairReverse lc)) := by
  cases h : (sequence l.sequencer x lc.elapsed).2
  · exact .inl ⟨rfl, by simp [risingEdge, h, edgeLane]⟩
  · exact .inr (.inl ⟨rfl, by simp [risingEdge, h, edgeLane]⟩)
  · exact .inr (.inr (.inl ⟨rfl, by simp [risingEdge, h, edgeLane]⟩))
  · exact .inr (.inr (.inr ⟨rfl, by simp [risingEdge, h, edgeLane]⟩))

@[simp] theorem raiseCause_inflight (cause : ErrorCause) : (raiseCause cause l).inflight = l.inflight := rfl

@[simp] theorem setScore_inflight (n : Nat) : (setScore lc l n).lane.inflight = l.inflight := by
  obtain h | h := setScore_lane (lc := lc) (l := l) n <;> rw [h]
  rfl

@[simp] theorem setSensor_inflight (x : ArmSensor) (v : Sensor) : (l.setSensor x v).inflight = l.inflight := by
  cases x <;> rfl

@[simp] theorem setSensor_current (x : ArmSensor) (v : Sensor) : (l.setSensor x v).current = l.current := by
  cases x <;> rfl

/-! ## The law of the list -/

/-- Without entries the output is that of OBSERVE (R71). -/
theorem listLawful_of_empty (hlist : l.inflight = []) (hout : l.output = true ↔ l.current = .observe) : l.listLawful mode := by
  simp [Lane.listLawful, Lane.headReleased, hlist, hout]

theorem settleHead_listLawful (hstate : l.current = .self ∨ l.current = .attended) {es : List Entry}
    (hlen : es.length ≤ Config.inFlightMax) (hwait : ∀ e ∈ es, e.released = false) :
    (settleHead lc l es).lane.listLawful mode := by
  induction es with
  | nil => exact listLawful_of_empty rfl (by simp [settleHead])
  | cons e rest ih =>
    obtain ⟨he, hrest⟩ := List.forall_mem_cons.mp hwait
    have hlen' : rest.length ≤ Config.inFlightMax := (Nat.le_succ _).trans hlen
    unfold settleHead
    split_ifs with hself hover
    · exact ⟨hlen, by simp [hself], hrest, fun _ _ => rfl, fun _ => .inr rfl, by simp, fun _ _ => rfl⟩
    · exact ih hlen' hrest
    · have hattended : l.current = .attended := hstate.resolve_left hself
      exact ⟨hlen, by simp [hattended], hrest, by simp [hattended], by simp [hattended], by simp [hattended],
        fun _ hhead => by simp [Lane.headReleased, he] at hhead⟩

/-- A lane whose head leaves in SELF or ATTENDED keeps the law of its list (R64, R70). -/
theorem settleTail_listLawful (hstate : l.current = .self ∨ l.current = .attended) {e : Entry} {rest : List Entry}
    (hlist : l.inflight = e :: rest) (h : l.listLawful mode) : (settleHead lc l rest).lane.listLawful mode := by
  obtain ⟨hlen, -, htail, -⟩ := h
  rw [hlist] at hlen htail
  exact settleHead_listLawful hstate ((Nat.le_succ _).trans hlen) htail

theorem balkHead_listLawful (h : l.listLawful mode) : (balkHead lc l).lane.listLawful mode := by
  unfold balkHead
  cases hlist : l.inflight with
  | nil => exact h
  | cons e rest =>
    refine settleTail_listLawful ?_ hlist h
    have hne : ¬ (l.current = .shut ∨ l.current = .observe) := fun hs => by simp [h.2.1 hs] at hlist
    exact laneState_self_or_attended (fun hs => hne (.inl hs)) (fun ho => hne (.inr ho))

theorem completeHead_listLawful (hstate : l.current = .self ∨ l.current = .attended) (h : l.listLawful mode) :
    (completeHead lc l).lane.listLawful mode := by
  unfold completeHead
  cases hlist : l.inflight with
  | nil => exact h
  | cons e rest => exact settleTail_listLawful hstate hlist h

theorem joinEntry_listLawful (hstate : l.current = .self ∨ l.current = .attended) {e : Entry} (he : e.released = false)
    (hroom : l.inflight.length < 2) (h : l.listLawful mode) : (joinEntry lc l e).lane.listLawful mode := by
  unfold joinEntry
  split_ifs with hnil
  · exact settleHead_listLawful hstate (Nat.le_succ 1) (by simpa using he)
  · obtain ⟨e₀, rest, hlist⟩ := List.exists_cons_of_ne_nil hnil
    obtain ⟨-, -, htail, hself, hout, hobserve, hheld⟩ := h
    unfold Lane.listLawful Lane.headReleased at *
    simp only [hlist, List.cons_append, List.tail_cons, List.length_cons, List.length_append, List.length_nil] at *
    refine ⟨Nat.succ_le_of_lt hroom, ?_, ?_, fun hs _ => hself hs (by simp), hout, hobserve, hheld⟩
    · rcases hstate with hs | hs <;> simp [hs]
    · intro x hx
      rcases List.mem_append.mp hx with hx | hx
      · exact htail x hx
      · exact List.mem_singleton.mp hx ▸ he

theorem releaseHead_listLawful (hstate : l.current = .self ∨ l.current = .attended) (hlen : l.inflight.length ≤ Config.inFlightMax)
    (htail : ∀ e ∈ l.inflight.tail, e.released = false) (hout : l.output = true → l.headReleased = true)
    (hheld : mode = .held → l.headReleased = true → l.output = true) :
    (releaseHead lc l).listLawful mode := by
  have hshut : ¬ (l.current = .shut ∨ l.current = .observe) := by rcases hstate with hs | hs <;> simp [hs]
  have hobserve : l.current ≠ .observe := fun ho => hshut (.inr ho)
  unfold releaseHead
  split
  · rename_i e rest hlist
    rw [hlist] at hlen htail
    split_ifs with hreleased
    · exact ⟨hlist ▸ hlen, fun hs => absurd hs hshut, hlist ▸ htail, fun _ _ => by simp [Lane.headReleased, hlist, hreleased],
        fun ho => .inr (hout ho), fun ho => absurd ho hobserve, hheld⟩
    · exact ⟨hlen, fun hs => absurd hs hshut, htail, fun _ _ => rfl, fun _ => .inr rfl, fun ho => absurd ho hobserve,
        fun _ _ => rfl⟩
  · rename_i hlist
    exact ⟨hlen, fun hs => absurd hs hshut, htail, fun _ hne => absurd hlist hne, fun ho => .inr (hout ho),
      fun ho => absurd ho hobserve, hheld⟩

/-! ## The law of the error indication -/

theorem raiseCause_lawful (cause : ErrorCause) (h : l.lawful mode) : (raiseCause cause l).lawful mode := by
  rw [Lane.lawful_iff] at h ⊢
  obtain ⟨⟨hlen, hempty, htail, hself, hout, hobserve, hheld⟩, hflag, hcauses, hfirst, hsensor, hlink, hscore⟩ := h
  refine ⟨⟨hlen, fun hs => ?_, htail, fun hs => ?_, fun ho => ?_, fun hs => ?_, fun hm hr => ?_⟩, fun _ => ?_, ?_, ?_, ?_, ?_, hscore⟩
  all_goals unfold raiseCause at *
  all_goals dsimp only at *
  · cases hc : l.current <;> simp [hc] at hs hempty ⊢
    exact hempty
  · cases hc : l.current <;> simp [hc] at hs
  · cases hc : l.current <;> simp [hc] at ho hout ⊢ <;> exact hout ho
  · cases hc : l.current <;> simp [hc] at hs
  · cases hc : l.current <;> simp_all [Lane.headReleased]
  · cases hc : l.current <;> simp
  · cases cause <;> simp
  · cases hf : l.errorFlag <;> simp_all
  · cases hf : l.errorFlag <;> simp_all
  · cases hf : l.errorFlag <;> simp_all

theorem setScore_lawful {n : Nat} (hn : n ≤ Config.scoreMax) (h : l.lawful mode) : (setScore lc l n).lane.lawful mode := by
  have hscore : ({ l with score := n } : Lane).lawful mode := by
    rw [Lane.lawful_iff] at h ⊢
    obtain ⟨hlist, hflag, hcauses, hfirst, hsensor, hlink, -⟩ := h
    exact ⟨hlist, hflag, hcauses, hfirst, hsensor, hlink, hn⟩
  obtain heq | heq := setScore_lane (lc := lc) (l := l) n <;> rw [heq]
  · exact hscore
  · exact raiseCause_lawful _ hscore

theorem raiseScore_lawful (delta : Nat) (h : l.lawful mode) : (raiseScore lc l delta).lane.lawful mode :=
  setScore_lawful (Nat.min_le_left ..) h

theorem lowerScore_lawful (h : l.lawful mode) : (lowerScore lc l).lane.lawful mode := by
  have hscore : l.score ≤ Config.scoreMax := ((Lane.lawful_iff l mode).mp h).2.2.2.2.2.2
  exact setScore_lawful ((Nat.sub_le ..).trans hscore) h

theorem ackLane_lawful (h : l.lawful mode) : (ackLane lc l).lane.lawful mode := by
  unfold ackLane
  obtain ⟨hlist, -, -, -, -, -, hscore⟩ := (Lane.lawful_iff ..).mp h
  have hcleared {n : Nat} (hn : n ≤ Config.scoreMax) :
      ({ l with errorFlag := false, firstCause := none, causeSensor := false, causeLink := false, score := n } : Lane).lawful mode := by
    rw [Lane.lawful_iff]
    exact ⟨hlist, by simp, rfl, by simp, by simp, by simp, hn⟩
  split_ifs with hflag hsensor
  · exact h
  · rw [withStatePost_lane]
    exact hcleared (Nat.zero_le _)
  · rw [withStatePost_lane]
    exact hcleared hscore

/-! ## The events of a lane -/

/-- A change of list and output alone keeps the law when it keeps the law of the list. -/
theorem Lane.lawful_of_list {l' : Lane} (h : l.lawful mode) (heq : l' = { l with inflight := l'.inflight, output := l'.output })
    (hlist : l'.listLawful mode) : l'.lawful mode := by
  rw [Lane.lawful_iff] at h ⊢
  refine ⟨hlist, ?_⟩
  rw [heq]
  exact h.2

/-- A sensor and the sequencer are no part of the law. -/
theorem setSensor_lawful (x : ArmSensor) (v : Sensor) (h : l.lawful mode) : (l.setSensor x v).lawful mode := by
  cases x <;> exact h

theorem edgeLane_lawful (x : ArmSensor) (h : l.lawful mode) : (edgeLane lc l x).lawful mode := setSensor_lawful x _ h

theorem pairForward_lawful (h : l.lawful mode) : (pairForward lc l).lane.lawful mode := by
  obtain ⟨hsame, -⟩ | ⟨hstate, heq⟩ := pairForward_cases (lc := lc) (l := l)
  · rwa [hsame]
  · rw [heq]
    exact Lane.lawful_of_list h completeHead_lane (completeHead_listLawful hstate ((Lane.lawful_iff ..).mp h).1)

theorem risingEdge_lawful (x : ArmSensor) (h : l.lawful mode) : (risingEdge lc l x).lane.lawful mode := by
  have hedge := edgeLane_lawful (lc := lc) x h
  obtain ⟨-, heq⟩ | ⟨-, heq⟩ | ⟨-, heq⟩ | ⟨-, heq⟩ := risingEdge_cases lc l x <;> rw [heq]
  · exact hedge
  · exact raiseScore_lawful _ hedge
  · exact pairForward_lawful (lowerScore_lawful hedge)
  · exact lowerScore_lawful hedge

theorem stuckEvent_lawful (x : ArmSensor) (h : l.lawful mode) : (stuckEvent lc l x).lane.lawful mode := by
  unfold stuckEvent
  split
  · exact h
  · split
    · exact raiseScore_lawful _ (setSensor_lawful x _ h)
    · exact h

theorem pulseEnd_lawful (h : l.lawful mode) : (pulseEnd lc mode l).lawful mode := by
  unfold pulseEnd
  split
  · exact h
  · split
    · exact h
    · split_ifs with hend
      · obtain ⟨htimed, hstate, -⟩ := hend
        rw [Lane.lawful_iff] at h ⊢
        obtain ⟨⟨hlen, hempty, htail, hself, -, -, -⟩, herror⟩ := h
        have hobserve : l.current ≠ .observe := by rcases hstate with hs | hs <;> simp [hs]
        exact ⟨⟨hlen, hempty, htail, hself, by simp, fun ho => absurd ho hobserve, by simp [htimed]⟩, herror⟩
      · exact h

theorem endWindow_lawful (h : l.lawful mode) : (endWindow lc l).lawful mode := by
  unfold endWindow
  split
  · exact h
  · split_ifs <;> exact h
  · split_ifs <;> exact h

/-- What the checks of LANE STATE leave of the transitions (R57). -/
theorem laneStateCheck_ok {enabled : Bool} {status : TimebaseStatus} {target : LaneState}
    (h : laneStateCheck enabled status l target = .ok) (hne : target ≠ l.current) :
    target = .shut ∨
      (enabled = true ∧
        ((target = .self ∧ l.current = .attended ∧ l.errorFlag = false) ∨
          (target = .observe ∧ l.current = .attended ∧ l.errorFlag = false ∧ l.inflight = []) ∨
          (target = .attended ∧ l.current = .shut ∧ l.errorFlag = false ∧ status ≠ .unset) ∨
          (target = .attended ∧ (l.current = .self ∨ l.current = .observe)))) := by
  unfold laneStateCheck at h
  simp only [hne, if_false] at h
  split_ifs at h with henabled hinvalid herror hunset hbusy
  cases target <;> cases hc : l.current <;> simp_all

theorem commandState_lawful {enabled : Bool} {status : TimebaseStatus} {target : LaneState}
    (hok : laneStateCheck enabled status l target = .ok) (h : l.lawful mode) :
    (commandState lc l target).lane.lawful mode := by
  unfold commandState
  rw [withStatePost_lane]
  split_ifs with heq
  · exact h
  · rw [Lane.lawful_iff] at h ⊢
    obtain ⟨⟨hlen, hempty, htail, hself, hout, hobserve, hheld⟩, hflag, hcauses, hfirst, hsensor, hlink, hscore⟩ := h
    obtain rfl | ⟨-, ⟨rfl, hcur, herr⟩ | ⟨rfl, hcur, herr, hlist⟩ | ⟨rfl, hcur, herr, -⟩ | ⟨rfl, hcur⟩⟩ :=
      laneStateCheck_ok hok heq
    · exact ⟨listLawful_of_empty rfl (by simp [moveTo, enterShut]), by simp [moveTo, enterShut], hcauses, hfirst, hsensor, hlink,
        hscore⟩
    · refine ⟨releaseHead_listLawful (.inl rfl) hlen htail (fun ho => ?_) hheld, ?_⟩
      · exact (hout ho).resolve_left (by simp [hcur])
      · dsimp only [moveTo]
        have hrelease : (releaseHead lc { l with current := .self, requested := .self }).errorLawful =
            ({ l with current := .self, requested := .self } : Lane).errorLawful := by
          unfold releaseHead
          split
          · split <;> rfl
          · rfl
        rw [hrelease]
        exact ⟨by simp [herr], hcauses, hfirst, hsensor, hlink, hscore⟩
    · exact ⟨listLawful_of_empty hlist (by simp [moveTo]), by simp [moveTo, herr], hcauses, hfirst, hsensor, hlink, hscore⟩
    · exact ⟨listLawful_of_empty (hempty (.inl hcur)) (by simp [moveTo, hcur]), by simp [moveTo], hcauses, hfirst, hsensor, hlink, hscore⟩
    · refine ⟨?_, by simp [moveTo], hcauses, hfirst, hsensor, hlink, hscore⟩
      rcases hcur with hcur | hcur
      · refine ⟨hlen, by simp [moveTo], htail, by simp [moveTo], fun ho => .inr ?_, by simp [moveTo], fun hm hr => ?_⟩
        · simpa [moveTo, hcur, Lane.headReleased] using hout (by simpa [moveTo, hcur] using ho)
        · simpa [moveTo, hcur] using hheld hm hr
      · exact listLawful_of_empty (hempty (.inr hcur)) (by simp [moveTo, hcur])

theorem releaseHead_lawful {e : Entry} (hwait : waitingHead l = some e) (h : l.lawful mode) : (releaseHead lc l).lawful mode := by
  have hattended : l.current = .attended := by
    unfold waitingHead at hwait
    split at hwait
    · split_ifs at hwait with hc
      exact hc.1
    · cases hwait
  have hframe : releaseHead lc l =
      { l with inflight := (releaseHead lc l).inflight, output := (releaseHead lc l).output } := by
    unfold releaseHead
    split
    · split <;> rfl
    · rfl
  obtain ⟨hlen, -, htail, -, hout, -, hheld⟩ := ((Lane.lawful_iff ..).mp h).1
  exact Lane.lawful_of_list h hframe
    (releaseHead_listLawful (.inr hattended) hlen htail (fun ho => by simpa [hattended] using hout ho) hheld)

/-- Every event of a lane keeps the law of the lane. -/
theorem LaneStep.lawful {k : LaneId} {o : LaneOut} (h : LaneStep c s k o)
    (hs : (s.lane k).lawful s.profile.modeOf[k.val]) : o.lane.lawful s.profile.modeOf[k.val] := by
  have hlist := ((Lane.lawful_iff ..).mp hs).1
  cases h with
  | command target _ _ hok => exact commandState_lawful hok hs
  | ack => exact ackLane_lawful hs
  | go e he => exact releaseHead_lawful he hs
  | deny e he => exact Lane.lawful_of_list hs balkHead_lane (balkHead_listLawful hlist)
  | free hstate hroom => exact Lane.lawful_of_list hs (joinEntry_lane _) (joinEntry_listLawful hstate rfl hroom hlist)
  | timeout =>
    unfold timeoutEvent
    split
    · exact Lane.lawful_of_list hs balkHead_lane (balkHead_listLawful hlist)
    · exact hs
  | pulse => exact pulseEnd_lawful hs
  | rising x => exact risingEdge_lawful x hs
  | falling x => exact setSensor_lawful x _ hs
  | level x high => exact setSensor_lawful x _ hs
  | window => exact endWindow_lawful hs
  | stuck x => exact stuckEvent_lawful x hs
  | cause =>
    rw [causeEvent_lane]
    exact raiseCause_lawful _ hs

/-! ## The state of a lane that is SHUT -/

@[simp] theorem balkHead_current : (balkHead lc l).lane.current = l.current := by
  rw [balkHead_lane]

@[simp] theorem joinEntry_current (e : Entry) : (joinEntry lc l e).lane.current = l.current := by
  rw [joinEntry_lane]

@[simp] theorem completeHead_current : (completeHead lc l).lane.current = l.current := by
  rw [completeHead_lane]

@[simp] theorem pairForward_current : (pairForward lc l).lane.current = l.current := by
  obtain ⟨h, -⟩ | ⟨-, h⟩ := pairForward_cases (lc := lc) (l := l) <;> rw [h]
  exact completeHead_current

/-- A cause leaves a SHUT lane SHUT (R60). -/
theorem raiseCause_of_shut (cause : ErrorCause) (h : l.current = .shut) : (raiseCause cause l).current = .shut := by
  simp [raiseCause, h]

theorem setScore_of_shut (n : Nat) (h : l.current = .shut) : (setScore lc l n).lane.current = .shut := by
  obtain heq | heq := setScore_lane (lc := lc) (l := l) n <;> rw [heq]
  · exact h
  · exact raiseCause_of_shut _ h

theorem risingEdge_of_shut (x : ArmSensor) (h : l.current = .shut) : (risingEdge lc l x).lane.current = .shut := by
  have hedge : (edgeLane lc l x).current = .shut := (setSensor_current ..).trans h
  obtain ⟨-, heq⟩ | ⟨-, heq⟩ | ⟨-, heq⟩ | ⟨-, heq⟩ := risingEdge_cases lc l x <;> rw [heq]
  · exact hedge
  · exact setScore_of_shut _ hedge
  · exact pairForward_current.trans (setScore_of_shut _ hedge)
  · exact setScore_of_shut _ hedge

theorem stuckEvent_of_shut (x : ArmSensor) (h : l.current = .shut) : (stuckEvent lc l x).lane.current = .shut := by
  unfold stuckEvent
  split
  · exact h
  · split_ifs
    · exact setScore_of_shut _ ((setSensor_current ..).trans h)
    · exact h

theorem commandState_of_shut {enabled : Bool} {status : TimebaseStatus} {target : LaneState}
    (hok : laneStateCheck enabled status l target = .ok) (h : l.current = .shut) :
    (commandState lc l target).lane.current = .shut ∨
      (commandState lc l target).lane.current = .attended ∧ enabled = true ∧ l.errorFlag = false ∧ status ≠ .unset := by
  unfold commandState
  rw [withStatePost_lane]
  split_ifs with heq
  · exact .inl h
  · obtain rfl | ⟨henabled, ⟨-, hcur, -⟩ | ⟨-, hcur, -⟩ | ⟨rfl, -, herr, hstatus⟩ | ⟨-, hcur⟩⟩ := laneStateCheck_ok hok heq
    · exact .inl rfl
    · simp [h] at hcur
    · simp [h] at hcur
    · exact .inr ⟨rfl, henabled, herr, hstatus⟩
    · simp [h] at hcur

/-- A SHUT lane stays SHUT but for a LANE STATE, which opens an enabled lane without error indication to ATTENDED (R57). -/
theorem LaneStep.of_shut {k : LaneId} {o : LaneOut} (h : LaneStep c s k o) (hs : (s.lane k).current = .shut) :
    o.lane.current = .shut ∨
      (∃ p tag body, c = .laneState p tag body) ∧ s.phase = .ready ∧ o.lane.current = .attended ∧
        k.val < s.profile.lanesEnabled ∧ (s.lane k).errorFlag = false ∧ s.timebase.status ≠ .unset := by
  cases h with
  | command target hc hready hok =>
    obtain h | ⟨hattended, henabled, herr, hstatus⟩ := commandState_of_shut hok hs
    · exact .inl h
    · exact .inr ⟨hc, hready, hattended, of_decide_eq_true henabled, herr, hstatus⟩
  | ack =>
    refine .inl ?_
    unfold ackLane
    split_ifs <;> simp [hs]
  | go e he =>
    refine .inl ?_
    unfold releaseHead
    split
    · split <;> exact hs
    · exact hs
  | deny e he => exact .inl (balkHead_current.trans hs)
  | free hstate hroom => exact .inl ((joinEntry_current _).trans hs)
  | timeout =>
    refine .inl ?_
    unfold timeoutEvent
    split
    · exact balkHead_current.trans hs
    · exact hs
  | pulse =>
    refine .inl ?_
    unfold pulseEnd
    split
    · exact hs
    · split
      · exact hs
      · split <;> exact hs
  | rising x => exact .inl (risingEdge_of_shut x hs)
  | falling x => exact .inl ((setSensor_current ..).trans hs)
  | level x high => exact .inl ((setSensor_current ..).trans hs)
  | window =>
    refine .inl ?_
    unfold endWindow
    split
    · exact hs
    · split_ifs <;> exact hs
    · split_ifs <;> exact hs
  | stuck x => exact .inl (stuckEvent_of_shut x hs)
  | cause =>
    refine .inl ?_
    rw [causeEvent_lane]
    exact raiseCause_of_shut _ hs

/-! ## Operations on all lanes -/

/-- The part of a lane that its law and its state are about. -/
abbrev Lane.same (l l' : Lane) : Prop :=
  l'.current = l.current ∧ l'.inflight.map Entry.released = l.inflight.map Entry.released ∧ l'.output = l.output ∧
    l'.errorFlag = l.errorFlag ∧ l'.firstCause = l.firstCause ∧ l'.causeSensor = l.causeSensor ∧
    l'.causeLink = l.causeLink ∧ l'.score = l.score

theorem Lane.headReleased_eq (l : Lane) : l.headReleased = (l.inflight.map Entry.released).headD false := by
  unfold Lane.headReleased
  cases l.inflight <;> rfl

theorem Lane.same.lawful {l' : Lane} (h : l.same l') (hl : l.lawful mode) : l'.lawful mode := by
  obtain ⟨hcur, hlist, hout, hflag, hfirst, hsensor, hlink, hscore⟩ := h
  have hlen : l'.inflight.length = l.inflight.length := by simpa using congrArg List.length hlist
  have hnil : l'.inflight = [] ↔ l.inflight = [] := by simpa using congrArg (· = []) hlist
  have hhead : l'.headReleased = l.headReleased := by rw [Lane.headReleased_eq, Lane.headReleased_eq, hlist]
  have htail (m : Lane) : (∀ e ∈ m.inflight.tail, e.released = false) ↔ ∀ b ∈ (m.inflight.map Entry.released).tail, b = false := by
    rw [← List.map_tail, List.forall_mem_map]
  unfold Lane.lawful at *
  rw [htail] at hl ⊢
  rw [hcur, hlist, hlen, hnil, hhead, hout, hflag, hfirst, hsensor, hlink, hscore]
  simpa only [ne_eq, hnil] using hl

@[simp] theorem clearHeld_released (serial day : Nat) (e : Entry) : (e.clearHeld serial day).released = e.released := by
  unfold Entry.clearHeld
  split
  · split <;> rfl
  · rfl

theorem clearHeld_same (serial day : Nat) (l : Lane) : l.same (l.clearHeld serial day) := by
  refine ⟨rfl, ?_, rfl, rfl, rfl, rfl, rfl, rfl⟩
  simp [Lane.clearHeld]

theorem beginTaking_same (elapsed : Nat) (l : Lane) : l.same (l.beginTaking elapsed) := ⟨rfl, rfl, rfl, rfl, rfl, rfl, rfl, rfl⟩

theorem readyLane_same (enabled elapsed k : Nat) (l : Lane) : l.same (readyLane enabled elapsed k l) := by
  unfold readyLane
  split
  · exact beginTaking_same ..
  · exact ⟨rfl, rfl, rfl, rfl, rfl, rfl, rfl, rfl⟩

theorem enableLane_same (before after elapsed k : Nat) (l : Lane) : l.same (enableLane before after elapsed k l) := by
  unfold enableLane
  split_ifs
  · exact ⟨rfl, rfl, rfl, rfl, rfl, rfl, rfl, rfl⟩
  · exact beginTaking_same ..
  · exact ⟨rfl, rfl, rfl, rfl, rfl, rfl, rfl, rfl⟩

theorem Lane.reset_lawful (a b : Bool) (mode : ReleaseMode) : (Lane.reset a b).lawful mode := by
  simp [Lane.reset, Lane.lawful, Lane.headReleased]

end Sys2Proof.Machine
end

section
/-! PROOF. Every command keeps the law of the lanes, and only a LANE STATE opens one (R56 to R60, R142, R173, R176). -/

namespace Sys2Proof.Machine

variable {c : Instr} {s₀ s t : State}

/-- What a move can leave of lane `k`. -/
inductive LaneMoved (c : Instr) (s : State) (k : LaneId) : Lane → Prop
  | step (o : LaneOut) (h : LaneStep c s k o) : LaneMoved c s k o.lane
  | joined (kind : EntryKind) (hstate : (s.lane k).current = .self ∨ (s.lane k).current = .attended)
      (hroom : (s.lane k).inflight.length < 2) :
      LaneMoved c s k (joinEntry (s.laneCtx k) (s.lane k) (newEntry (s.laneCtx k) kind)).lane
  | same (l : Lane) (h : (s.lane k).same l) : LaneMoved c s k l
  | reset (a b : Bool) : LaneMoved c s k (Lane.reset a b)

theorem LaneMoved.refl (k : LaneId) : LaneMoved c s k (s.lane k) := .same _ ⟨rfl, rfl, rfl, rfl, rfl, rfl, rfl, rfl⟩

theorem serveTask_lane (s : State) (task : Task) (k : LaneId) :
    (serveTask s task).lane k = s.lane k ∨ ∃ serial day, (serveTask s task).lane k = (s.lane k).clearHeld serial day := by
  unfold serveTask
  split
  · unfold serveConfirm
    split
    · split
      · exact .inr ⟨_, _, by simp [State.lane]; rfl⟩
      · exact .inl rfl
      · exact .inl rfl
    · exact .inl rfl
  · unfold serveVoid
    split <;> exact .inl rfl

theorem serveTask_laneMoved {u : State} (task : Task) {k : LaneId} (hu : u.lane k = s.lane k) :
    LaneMoved c s k ((serveTask u task).lane k) := by
  obtain h | ⟨serial, day, h⟩ := serveTask_lane u task k <;> rw [h, hu]
  · exact .refl k
  · exact .same _ (clearHeld_same ..)

theorem Effect.laneMoved (h : Effect c s₀ s t) (k : LaneId) : LaneMoved c s k (t.lane k) := by
  cases h
  case lane j o h =>
    rw [applyLane_lane]
    split_ifs with hk
    · subst hk
      exact .step o h
    · exact .refl k
  case admitHeld j serial r consumed hstate hroom hrec hv hbusy htasks =>
    rw [applyLane_lane]
    split_ifs with hk
    · subst hk
      exact .joined _ hstate hroom
    · exact .refl k
  case flag => rw [serveFlag_frame]; exact .refl k
  case reference => rw [applyReference_frame]; exact .refl k
  case configured =>
    rw [storeProfile_frame]
    exact .same _ (by simpa [State.lane] using enableLane_same ..)
  case boundary => rw [closeAtBoundary, closeInterval_frame]; exact .refl k
  case settled => rw [settleDay_frame]; exact .refl k
  case ready => exact .same _ (by simpa [becomeReady, State.lane] using readyLane_same ..)
  case taskServed => exact serveTask_laneMoved _ rfl
  case deferredTaskServed => exact serveTask_laneMoved _ rfl
  all_goals exact .refl k

theorem Move.laneMoved (h : Move c s₀ s t) (k : LaneId) : LaneMoved c s k (t.lane k) := by
  cases h
  case effect h => exact h.laneMoved k
  case port p ps => cases p <;> exact .refl k
  case reset =>
    rw [deviceReset_frame]
    simpa [resetBlocks, State.lane, Lane.deviceReset] using LaneMoved.reset (c := c) (s := s) (k := k) _ _
  all_goals exact .refl k

theorem LaneMoved.lawful {k : LaneId} {l : Lane} (h : LaneMoved c s k l)
    (hs : (s.lane k).lawful s.profile.modeOf[k.val]) : l.lawful s.profile.modeOf[k.val] := by
  cases h with
  | step o h => exact h.lawful hs
  | joined kind hstate hroom =>
    exact Lane.lawful_of_list hs (joinEntry_lane _)
      (joinEntry_listLawful hstate rfl hroom ((Lane.lawful_iff ..).mp hs).1)
  | same _ h => exact h.lawful hs
  | reset a b => exact Lane.reset_lawful a b _

theorem LaneMoved.of_shut {k : LaneId} {l : Lane} (h : LaneMoved c s k l) (hs : (s.lane k).current = .shut) :
    l.current = .shut ∨
      (∃ p tag body, c = .laneState p tag body) ∧ s.phase = .ready ∧ l.current = .attended ∧
        k.val < s.profile.lanesEnabled ∧ (s.lane k).errorFlag = false ∧ s.timebase.status ≠ .unset := by
  cases h with
  | step o h => exact h.of_shut hs
  | joined kind hstate hroom => simp [hs] at hstate
  | same _ h => exact .inl (h.1.trans hs)
  | reset a b => exact .inl rfl

/-! ## What a move leaves of what the lanes' law reads -/

theorem concerns_of_mode {f : Profile} {v : Int} {k : LaneId} (h : concerns f { field := .mode k, value := v } k = false) :
    clampMode v = f.modeOf[k.val] := by
  simpa [concerns, Profile.store] using h

theorem concerns_of_lanesEnabled {f : Profile} {v : Int} {k : LaneId}
    (h : concerns f { field := .lanesEnabled, value := v } k = false) (hk : k.val < f.lanesEnabled) :
    k.val < clampRange 0 6 v := by
  by_contra hle
  simp [concerns, Profile.store, hk, Nat.le_of_not_lt hle] at h

/-- Items that bring a lane's mode to what it is leave it. -/
theorem foldl_store_mode {items : List ConfigItem} {k : LaneId} {m : ReleaseMode} (f : Profile)
    (hitems : ∀ i ∈ items, i.field = .mode k → clampMode i.value = m) (hf : f.modeOf[k.val] = m) :
    (items.foldl Profile.store f).modeOf[k.val] = m := by
  induction items generalizing f with
  | nil => exact hf
  | cons i rest ih =>
    obtain ⟨hi, hrest⟩ := List.forall_mem_cons.mp hitems
    refine ih _ hrest ?_
    unfold Profile.store
    split <;> try exact hf
    rename_i j hfield
    dsimp only
    rw [Vector.getElem_set]
    split_ifs with hj
    · exact hi (by rw [hfield, Fin.ext hj])
    · exact hf

/-- Items that leave a lane enabled leave it so together. -/
theorem foldl_store_enabled {items : List ConfigItem} {k : LaneId} (f : Profile)
    (hitems : ∀ i ∈ items, i.field = .lanesEnabled → k.val < clampRange 0 6 i.value) (hf : k.val < f.lanesEnabled) :
    k.val < (items.foldl Profile.store f).lanesEnabled := by
  induction items generalizing f with
  | nil => exact hf
  | cons i rest ih =>
    obtain ⟨hi, hrest⟩ := List.forall_mem_cons.mp hitems
    refine ih _ hrest ?_
    unfold Profile.store
    split <;> try exact hf
    rename_i hfield
    exact hi hfield

@[simp] theorem raiseTimeout_modeOf (f : Profile) : f.raiseTimeout.modeOf = f.modeOf := by
  unfold Profile.raiseTimeout
  split <;> rfl

@[simp] theorem raiseTimeout_lanesEnabled (f : Profile) : f.raiseTimeout.lanesEnabled = f.lanesEnabled := by
  unfold Profile.raiseTimeout
  split <;> rfl

/-- An accepted CONFIGURE concerns SHUT lanes alone (R174). -/
theorem shut_of_concerns {items : List ConfigItem} (h : lanesOpen s items = none) :
    ∀ i ∈ items, ∀ k, concerns s.profile i k = true → (s.lane k).current = .shut := by
  induction items with
  | nil => simp
  | cons i rest ih =>
    unfold lanesOpen at h
    split at h
    · cases h
    · rename_i hopen
      refine List.forall_mem_cons.mpr ⟨fun k hk => ?_, ih h⟩
      have hnone := List.find?_eq_none.mp hopen k (List.mem_finRange k)
      simpa [hk] using hnone

/-- A lane not SHUT keeps its release mode and stays enabled over a CONFIGURE (R173, R174). -/
theorem configured_of_open {items : List ConfigItem} (h : lanesOpen s items = none) (k : LaneId) :
    (s.lane k).current = .shut ∨
      (s.profile.configured items).modeOf[k.val] = s.profile.modeOf[k.val] ∧
        (k.val < s.profile.lanesEnabled → k.val < (s.profile.configured items).lanesEnabled) := by
  refine or_iff_not_imp_left.mpr fun hopen => ?_
  have hnot (i : ConfigItem) (hi : i ∈ items) : concerns s.profile i k = false :=
    Bool.eq_false_iff.mpr fun hc => hopen (shut_of_concerns h i hi k hc)
  unfold Profile.configured
  rw [raiseTimeout_lanesEnabled]
  simp only [raiseTimeout_modeOf]
  refine ⟨foldl_store_mode _ (fun i hi hfield => ?_) rfl, fun hk => foldl_store_enabled _ (fun i hi hfield => ?_) hk⟩
  · obtain ⟨field, v⟩ := i
    obtain rfl : field = .mode k := hfield
    exact concerns_of_mode (hnot _ hi)
  · obtain ⟨field, v⟩ := i
    obtain rfl : field = .lanesEnabled := hfield
    exact concerns_of_lanesEnabled (hnot _ hi) hk

/-- The profile stands, or a CONFIGURE changes it and leaves every lane, and of a lane not SHUT the release mode too (R173, R174). -/
theorem Effect.profile_or_same (h : Effect c s₀ s t) :
    t.profile = s.profile ∨
      ∀ k, (s.lane k).same (t.lane k) ∧
        ((s.lane k).current = .shut ∨
          t.profile.modeOf[k.val] = s.profile.modeOf[k.val] ∧
            (k.val < s.profile.lanesEnabled → k.val < t.profile.lanesEnabled)) := by
  cases h
  case configured body items hbody hlanes _ =>
    refine .inr fun k => ?_
    rw [storeProfile_frame]
    exact ⟨by simpa [State.lane] using enableLane_same .., configured_of_open hlanes k⟩
  case flag => exact .inl (by rw [serveFlag_frame])
  case reference => exact .inl (by rw [applyReference_frame])
  case boundary => exact .inl (by rw [closeAtBoundary, closeInterval_frame])
  case settled => exact .inl (settleDay_profile s)
  case taskServed => exact .inl (by rw [serveTask_frame])
  case deferredTaskServed => exact .inl (by rw [serveTask_frame])
  all_goals exact .inl rfl

theorem Effect.phase (h : Effect c s₀ s t) : t.phase = s.phase ∨ t.phase = .ready := by
  cases h
  case flag => exact .inl (by rw [serveFlag_frame])
  case reference => exact .inl (by rw [applyReference_frame])
  case configured => exact .inl (by rw [storeProfile_frame])
  case boundary => exact .inl (by rw [closeAtBoundary, closeInterval_frame])
  case settled => exact .inl (settleDay_phase s)
  case taskServed => exact .inl (by rw [serveTask_frame])
  case deferredTaskServed => exact .inl (by rw [serveTask_frame])
  case ready => exact .inr rfl
  all_goals exact .inl rfl

theorem settleDay_status (s : State) : (settleDay s).timebase.status = s.timebase.status := by
  rw [settleDay_frame]

/-- A reference leaves the status or makes it LOCKED (R142). -/
theorem referred_status (b : Timebase) (tRef : Nat) (e : Int) (elapsed : Nat) (cse : ReferenceCase) :
    (b.referred tRef e elapsed cse).status = b.status ∨ (b.referred tRef e elapsed cse).status = .locked := by
  cases cse with
  | refused => exact .inl rfl
  | set | slew | step | forced => exact .inr rfl

/-- The timebase does not return to UNSET but by a device reset (R142). -/
theorem Effect.status (h : Effect c s₀ s t) (ht : t.timebase.status = .unset) : s.timebase.status = .unset := by
  cases h
  case flag => rwa [serveFlag_frame] at ht
  case reference body tRef force hc hbody =>
    obtain ⟨d, hd, -⟩ := applyReference_timebase s tRef ((tRef : Int) - s.timebase.time)
      (referenceCase s.timebase.status ((tRef : Int) - s.timebase.time) force)
    rw [hd] at ht
    obtain h | h := referred_status s.timebase tRef ((tRef : Int) - s.timebase.time) s.elapsed
      (referenceCase s.timebase.status ((tRef : Int) - s.timebase.time) force)
    · exact h.symm.trans ht
    · simp [h] at ht
  case configured body items hbody hlanes _ =>
    obtain ⟨-, -, heq⟩ | ⟨-, -, heq⟩ | ⟨-, heq⟩ :=
      storeProfile_cases s (s.profile.configured items) (configuredTrim s.timebase.trim items) <;> rw [heq] at ht
    · exact ht
    · rwa [closeCut, closeInterval_timebase] at ht
    · rwa [settleDay_status, closeCut, closeInterval_timebase] at ht
  case slewed => simpa [Timebase.slew, apply_ite Timebase.status] using ht
  case freed => simp at ht
  case boundary => rwa [closeAtBoundary, closeInterval_frame] at ht
  case settled => rwa [settleDay_status] at ht
  case taskServed => rwa [serveTask_frame] at ht
  case deferredTaskServed => rwa [serveTask_frame] at ht
  all_goals exact ht

/-! ## The law -/

/-- A SHUT lane has no entry and no RELEASED head, whatever its mode. -/
theorem Lane.lawful.of_shut {l : Lane} {mode mode' : ReleaseMode} (h : l.lawful mode) (hs : l.current = .shut) :
    l.lawful mode' := by
  obtain ⟨hlist, herror⟩ := (Lane.lawful_iff ..).mp h
  have hempty : l.inflight = [] := hlist.2.1 (.inl hs)
  refine (Lane.lawful_iff ..).mpr ⟨listLawful_of_empty hempty ?_, herror⟩
  have hout := hlist.2.2.2.2.1
  simpa [Lane.headReleased, hempty, hs] using hout

/-- What keeps a lane SHUT. -/
abbrev State.keepsShut (s : State) (k : LaneId) : Prop :=
  s.phase = .starting ∨ s.timebase.status = .unset ∨ s.profile.lanesEnabled ≤ k.val

/-- A lane that is kept SHUT stays SHUT. -/
theorem LaneMoved.shut_of_keepsShut {k : LaneId} {l : Lane} (h : LaneMoved c s k l) (hk : s.keepsShut k)
    (hs : (s.lane k).current = .shut) : l.current = .shut := by
  obtain h | ⟨-, hready, -, henabled, -, hstatus⟩ := h.of_shut hs
  · exact h
  · obtain hk | hk | hk := hk
    · simp [hready] at hk
    · exact absurd hk hstatus
    · exact absurd henabled (Nat.not_lt.mpr hk)

theorem Effect.laneLaw (h : Effect c s₀ s t) (hs : LaneLaw s) : LaneLaw t := by
  intro k
  obtain ⟨hlawful, hshut⟩ := hs k
  have hmoved := h.laneMoved k
  have hphase (ht : t.phase = .starting) : s.phase = .starting := by
    obtain h | h := h.phase
    · exact h.symm.trans ht
    · simp [h] at ht
  have hstay (hk : s.keepsShut k) : (t.lane k).current = .shut := hmoved.shut_of_keepsShut hk (hshut hk)
  obtain hprofile | hconfigured := h.profile_or_same
  · rw [hprofile]
    refine ⟨hmoved.lawful hlawful, fun hk => hstay ?_⟩
    exact hk.imp hphase (Or.imp h.status id)
  · obtain ⟨hsame, hopen⟩ := hconfigured k
    refine ⟨?_, fun hk => ?_⟩
    · obtain hcur | ⟨hmode, -⟩ := hopen
      · exact (hsame.lawful hlawful).of_shut (hsame.1.trans hcur)
      · rw [hmode]
        exact hsame.lawful hlawful
    · obtain hk | hk | hk := hk
      · exact hstay (.inl (hphase hk))
      · exact hstay (.inr (.inl (h.status hk)))
      · obtain hcur | ⟨-, henabled⟩ := hopen
        · exact hsame.1.trans hcur
        · exact hstay (.inr (.inr (Nat.le_of_not_lt fun hlt => Nat.not_lt.mpr hk (henabled hlt))))

theorem Move.laneLaw (h : Move c s₀ s t) (hs : LaneLaw s) : LaneLaw t := by
  cases h
  case effect h => exact h.laneLaw hs
  case port p ps => cases p <;> exact hs
  case reset =>
    rw [deviceReset_frame]
    intro k
    have hlane : (resetBlocks s).lane k = (s.lane k).deviceReset := by simp [resetBlocks, State.lane]
    exact ⟨hlane ▸ Lane.reset_lawful .., fun _ => hlane ▸ rfl⟩
  all_goals exact hs

/-- Settles O46: every move keeps the law of the lanes. -/
theorem laneLawIsKept : Obligations.LaneLawIsKept := by
  intro s t hs h
  exact step_keeps (fun _ _ hu => hu) (fun _ _ _ _ hu hm => hm.laneLaw hu) hs h

/-! ## Opening a lane -/

/-- What a unit's request comes to: nothing, a position at its port, or a service (R157, R158). -/
theorem requestUnit_cases (p : Port) (k : Kind) (tag : Byte) (serve : State → Served) :
    (∃ ps, s.requestUnit p k tag serve = s.setPort p ps) ∨
      s.phase = .ready ∧ ∃ ps, s.requestUnit p k tag serve = (serve (s.setPort p ps)).answerAt p := by
  unfold State.requestUnit State.request
  by_cases hfull : (s.port p).isFull = true
  · exact .inl ⟨_, (receive_full _ _ _ hfull).trans (setPort_port_self s p).symm⟩
  · rw [Bool.not_eq_true] at hfull
    by_cases hpending : (s.port p).hasPending = true
    · exact .inl ⟨_, receive_pending _ _ _ hfull hpending⟩
    · simp only [State.receive, hfull, hpending, State.judge, setPort_phase]
      by_cases hpermitted : permitted k p = false
      · exact .inl ⟨_, by simp [hpermitted, State.respond]; rfl⟩
      · cases hphase : s.phase
        · exact .inl ⟨_, by simp [hpermitted, State.respond]; rfl⟩
        · exact .inr ⟨rfl, _, by simp [hpermitted]; rfl⟩

@[simp] theorem setPort_lane (s : State) (p : Port) (ps : PortState) (k : LaneId) : (s.setPort p ps).lane k = s.lane k := by
  cases p <;> rfl

@[simp] theorem respond_lane (s : State) (p : Port) (code : Code) (body : List Byte) (k : LaneId) :
    (s.respond p code body).lane k = s.lane k := by
  cases p <;> rfl

/-- A LANE STATE moves at most one lane, by an accepted command. -/
theorem execLaneState_lane {p : Port} {tag : Byte} {body : List Byte} (h : exec (.laneState p tag body) s = .next t)
    (k : LaneId) :
    t.lane k = s.lane k ∨
      ∃ target, s.phase = .ready ∧
        laneStateCheck (decide (k.val < s.profile.lanesEnabled)) s.timebase.status (s.lane k) target = .ok ∧
        t.lane k = (commandState (s.laneCtx k) (s.lane k) target).lane := by
  obtain rfl := Host.Outcome.next.inj h
  obtain ⟨ps, heq⟩ | ⟨hready, ps, heq⟩ := requestUnit_cases (s := s) p .laneState tag fun s1 => serveLaneState s1 body
  · exact .inl (by rw [heq, setPort_lane])
  · rw [heq, Served.answerAt, respond_lane]
    unfold serveLaneState
    split
    · exact .inl (setPort_lane ..)
    · exact .inl (setPort_lane ..)
    · rename_i j target _
      dsimp only
      split
      · rename_i hok
        simp only [setPort_profile, setPort_timebase, setPort_lane] at hok
        rw [applyLane_lane]
        split_ifs with hk
        · subst hk
          refine .inr ⟨target, hready, hok, ?_⟩
          simp [State.laneCtx]
        · exact .inl (setPort_lane ..)
      · exact .inl (setPort_lane ..)

/-- Settles O47: of the moves only a LANE STATE opens a SHUT lane, and it opens the lane that it finds. -/
theorem lanesOpenOnlyByLaneState : Obligations.LanesOpenOnlyByLaneState := by
  intro c s t k h hshut hopen
  by_cases hc : ∃ p tag body, c = .laneState p tag body
  · refine ⟨hc, ?_⟩
    obtain ⟨p, tag, body, rfl⟩ := hc
    obtain heq | ⟨target, hready, hok, heq⟩ := execLaneState_lane h k <;> rw [heq] at hopen ⊢
    · exact absurd hshut hopen
    · obtain hcur | ⟨hcur, henabled, herr, hstatus⟩ := commandState_of_shut (lc := s.laneCtx k) hok hshut
      · exact absurd hcur hopen
      · exact ⟨hcur, of_decide_eq_true henabled, herr, hready, hstatus⟩
  · refine absurd ?_ hopen
    refine (exec_moves c h).keeps (P := fun u => (u.lane k).current = .shut) (fun u v hu hm => ?_) hshut
    obtain hcur | ⟨hcmd, -⟩ := (hm.laneMoved k).of_shut hu
    · exact hcur
    · exact absurd hcmd hc

end Sys2Proof.Machine
end

section
/-! PROOF. The answer of a unit at an open port, and the notice unit: posting, fetching and subscribing (chapter 10). -/

namespace Sys2Proof.Machine

variable {c : Instr} {s₀ s t u : State}

/-! ## The answer of a unit at an open port -/

@[simp] theorem setPort_noticePort (s : State) (p : Port) (ps : PortState) (i : StationId) :
    (s.setPort p ps).noticePort i = s.noticePort i := by
  cases p <;> rfl

/-- A unit that does the same whatever the request's port holds leaves its effect and the response behind what is there. -/
theorem requestUnit_answered {p : Port} {k : Kind} (tag : Byte) {serve : State → Served} {code : Code} {body : List Byte}
    (hopen : Open s p) (hp : permitted k p = true) (hport : u.port p = s.port p)
    (h : ∀ ps, serve (s.setPort p ps) = { state := u.setPort p ps, code := code, body := body }) :
    s.requestUnit p k tag serve = u.answered p k.code tag code body := by
  have hfree : PortFree u p := by
    unfold PortFree
    rw [hport]
    exact hopen.2
  rw [requestUnit_open k tag serve hopen hp, h, Served.answerAt, ← hport]
  exact respond_reserved _ _ _ _ hfree

/-- A unit that refuses a request, or reports on its state, changes nothing but the response. -/
theorem requestUnit_reported {p : Port} {k : Kind} (tag : Byte) {serve : State → Served} {code : Code} {body : List Byte}
    (hopen : Open s p) (hp : permitted k p = true)
    (h : ∀ ps, serve (s.setPort p ps) = { state := s.setPort p ps, code := code, body := body }) :
    s.requestUnit p k tag serve = s.answered p k.code tag code body :=
  requestUnit_answered tag hopen hp rfl h

/-! ## Posting -/

/-- A post that is not the oldest in flight from its block does nothing (R168). -/
theorem exec_noticePost_of_not_next {d : NoticeDetail} (h : s.nextPost d = false) : exec (.noticePost d) s = .next s := by
  change Host.Outcome.next (if s.nextPost d then takePost s d else s) = _
  rw [h]
  rfl

theorem exec_noticePost_of_next {d : NoticeDetail} (h : s.nextPost d = true) :
    exec (.noticePost d) s = .next (takePost s d) := by
  change Host.Outcome.next (if s.nextPost d then takePost s d else s) = _
  rw [h]
  rfl

theorem takePost_noticePort (d : NoticeDetail) (i : StationId) :
    (takePost s d).noticePort i = (s.noticePort i).take d s.timebase.time := by
  simp [takePost, State.noticePort]

theorem Notice.matches_iff {d : NoticeDetail} {n : Notice} : n.matches d = true ↔ noticeKey n.detail = noticeKey d := by
  simp [Notice.matches]

/-- In a queue that holds a notice of the post's kind and subject once, that notice is updated in place (R168). -/
theorem postInto_of_held {before after : List Notice} {n : Notice} {d : NoticeDetail} (x : Nat)
    (hnodup : ((before ++ n :: after).map (fun q => noticeKey q.detail)).Nodup) (hn : noticeKey n.detail = noticeKey d) :
    postInto (before ++ n :: after) d x =
      before ++ { detail := d, first := n.first, latest := x, count := min 255 (n.count + 1) } :: after := by
  have hother {q : Notice} (hq : q ∈ before ∨ q ∈ after) : q.matches d = false := by
    rw [← Bool.not_eq_true, Notice.matches_iff, ← hn]
    intro heq
    rw [List.map_append, List.map_cons, List.nodup_append] at hnodup
    obtain ⟨-, hafter, hdisjoint⟩ := hnodup
    rcases hq with hq | hq
    · exact hdisjoint _ (List.mem_map_of_mem hq) _ (by simp) heq
    · exact (List.nodup_cons.mp hafter).1 (heq ▸ List.mem_map_of_mem hq)
  have hsame {qs : List Notice} (hqs : ∀ q ∈ qs, q.matches d = false) :
      qs.map (fun q => if q.matches d then q.coalesce d x else q) = qs :=
    (List.map_congr_left fun q hq => by simp [hqs q hq]).trans (List.map_id'' (fun _ => rfl) qs)
  unfold postInto
  have hmatch : n.matches d = true := Notice.matches_iff.mpr hn
  rw [if_pos (by simp [hmatch]), List.map_append, List.map_cons, hsame fun q hq => hother (.inl hq),
    hsame fun q hq => hother (.inr hq), if_pos hmatch]
  rfl

theorem postInto_of_new {queue : List Notice} {d : NoticeDetail} (x : Nat) (h : ∀ n ∈ queue, noticeKey n.detail ≠ noticeKey d) :
    postInto queue d x = queue ++ [{ detail := d, first := x, latest := x, count := 1 }] := by
  have hnone : queue.any (Notice.matches d) = false :=
    List.any_eq_false.mpr fun n hn => by rw [Notice.matches_iff]; exact h n hn
  simp [postInto, hnone]

/-- A post leaves the mask (R168). -/
@[simp] theorem NoticePort.take_mask (n : NoticePort) (d : NoticeDetail) (x : Nat) : (n.take d x).mask = n.mask := by
  unfold NoticePort.take
  split <;> rfl

theorem serveFetch_open (s : State) (i : StationId) :
    serveFetch s (.station i) [] =
      { state := s.setNoticePort i { s.noticePort i with queue := (s.noticePort i).queue.drop 8 }
        code := .ok
        body := beBytes 1 (min 8 (s.noticePort i).queue.length) ++ ((s.noticePort i).queue.take 8).flatMap noticeBytes } := by
  simp [serveFetch, Config.fetchMax]

theorem oneNumber_beBytes (n v : Nat) (h : v < 256 ^ n) : oneNumber n (beBytes n v) = some v := by
  simp [oneNumber, ofBytes_beBytes, Nat.mod_eq_of_lt h]

theorem maskBody_beBytes {m : Nat} (h : m < 65536) :
    maskBody (beBytes 2 m) = if m < 1024 then some (BitVec.ofNat 16 m) else none := by
  simp [maskBody, oneNumber_beBytes 2 m h]

/-- Settles O59: the posts at each queue, and the two requests of a notice port. -/
theorem noticesArePostedAndTaken : Obligations.NoticesArePostedAndTaken := by
  refine ⟨?_, ?_, ?_, ?_, ?_⟩
  · rintro s d before after hposts ⟨q, hq, hsource⟩ hne
    refine exec_noticePost_of_not_next ?_
    unfold State.nextPost
    rw [hposts, List.find?_append]
    have hfound : (before.find? fun x => noticeSource x == noticeSource d).isSome = true :=
      List.find?_isSome.mpr ⟨q, hq, beq_iff_eq.mpr hsource⟩
    obtain ⟨r, hr⟩ := Option.isSome_iff_exists.mp hfound
    have hrd : r ≠ d := hne r (List.mem_of_find?_eq_some hr)
    simp [hr, hrd]
  · intro s d hd
    refine exec_noticePost_of_not_next ?_
    unfold State.nextPost
    rw [beq_eq_false_iff_ne]
    exact fun hfind => hd (List.mem_of_find?_eq_some hfind)
  · intro k band score st rq fc fl cs cl
    rfl
  · intro s d front back hposts hfront
    have hnext : s.nextPost d = true := by
      have hnone : front.find? (fun q => noticeSource q == noticeSource d) = none :=
        List.find?_eq_none.mpr fun q hq => by simpa using hfront q hq
      simp [State.nextPost, hposts, List.find?_append, hnone]
    have hd : d ∉ front := fun hmem => hfront d hmem rfl
    refine ⟨takePost s d, exec_noticePost_of_next hnext, ?_, fun i hlaw => ?_⟩
    · simp [takePost, hposts, List.erase_append_right _ hd]
    · rw [takePost_noticePort]
      refine ⟨NoticePort.take_mask .., fun hmask => by simp [NoticePort.take, hmask], fun hmask => ?_⟩
      simp only [NoticePort.take, hmask, if_true]
      refine ⟨fun before n after hqueue hn => ?_, fun hnew => postInto_of_new _ hnew⟩
      have hnodup := hlaw.1
      rw [hqueue] at hnodup ⊢
      exact postInto_of_held _ hnodup hn
  · intro s i tag hopen
    refine ⟨?_, fun m => ⟨fun hm => ?_, fun hm hm' => ?_⟩⟩
    · refine congrArg Host.Outcome.next (requestUnit_answered tag hopen rfl rfl fun ps => ?_)
      simp only [serveFetch_open, setPort_noticePort, setPort_setNoticePort]
    · refine congrArg Host.Outcome.next (requestUnit_answered tag hopen rfl rfl fun ps => ?_)
      have hm' : m < 65536 := hm.trans (by decide)
      simp only [serveSubscribe, maskBody_beBytes hm', hm, if_true, setPort_noticePort, setPort_setNoticePort, BitVec.toNat_ofNat,
        Nat.mod_eq_of_lt hm']
    · refine congrArg Host.Outcome.next (requestUnit_reported tag hopen rfl fun ps => ?_)
      simp only [serveSubscribe, maskBody_beBytes hm', Nat.not_lt.mpr hm, if_false]

/-! ## The law of the queues -/

theorem NoticePort.lawful_of_sublist {n : NoticePort} {queue : List Notice} {mask : Word16} (h : n.lawful)
    (hsub : queue.Sublist n.queue) (hmask : ∀ q ∈ queue, maskIncludes mask q.detail = true) :
    ({ queue := queue, mask := mask } : NoticePort).lawful := by
  obtain ⟨hnodup, hall⟩ := h
  refine ⟨hnodup.sublist (hsub.map _), fun q hq => ?_⟩
  obtain ⟨-, hcount⟩ := hall q (hsub.subset hq)
  exact ⟨hmask q hq, hcount⟩

theorem NoticePort.take_lawful {n : NoticePort} (d : NoticeDetail) (x : Nat) (h : n.lawful) : (n.take d x).lawful := by
  unfold NoticePort.take
  split
  case isFalse => exact h
  case isTrue hmask =>
    obtain ⟨hnodup, hall⟩ := h
    by_cases hheld : ∃ q ∈ n.queue, noticeKey q.detail = noticeKey d
    · obtain ⟨q, hq, hkey⟩ := hheld
      obtain ⟨before, after, hqueue⟩ := List.append_of_mem hq
      rw [hqueue] at hnodup hall
      rw [NoticePort.lawful, hqueue, postInto_of_held x hnodup hkey]
      have hcount := (hall q (by simp)).2
      refine ⟨by simpa [hkey] using hnodup, ?_⟩
      simp only [List.forall_mem_append, List.forall_mem_cons] at hall ⊢
      exact ⟨hall.1, ⟨hmask, by simp, Nat.min_le_left ..⟩, hall.2.2⟩
    · have hnew : ∀ q ∈ n.queue, noticeKey q.detail ≠ noticeKey d := fun q hq heq => hheld ⟨q, hq, heq⟩
      rw [NoticePort.lawful, postInto_of_new x hnew]
      refine ⟨?_, ?_⟩
      · rw [List.map_append, List.nodup_append]
        refine ⟨hnodup, by simp, ?_⟩
        simpa using hnew
      · simp only [List.forall_mem_append, List.forall_mem_singleton]
        exact ⟨hall, hmask, le_rfl, by decide⟩

theorem NoticePort.reset_lawful : NoticePort.reset.lawful := by simp [NoticePort.reset, NoticePort.lawful]

theorem setNoticePort_noticeLaw {i : StationId} {n : NoticePort} (hs : NoticeLaw s) (hn : n.lawful) :
    NoticeLaw (s.setNoticePort i n) := by
  intro j
  rw [setNoticePort_noticePort]
  split
  · exact hn
  · exact hs j

theorem Effect.noticeLaw (h : Effect c s₀ s t) (hs : NoticeLaw s) : NoticeLaw t := by
  cases h
  case flag => rwa [serveFlag_frame]
  case reference => rwa [applyReference_frame]
  case configured => rwa [storeProfile_frame]
  case fetched i n =>
    exact setNoticePort_noticeLaw hs
      (NoticePort.lawful_of_sublist (hs i) (List.drop_sublist ..) fun q hq => ((hs i).2 q (List.mem_of_mem_drop hq)).1)
  case subscribed i m =>
    exact setNoticePort_noticeLaw hs
      (NoticePort.lawful_of_sublist (hs i) List.filter_sublist fun q hq => (List.mem_filter.mp hq).2)
  case boundary => rwa [closeAtBoundary, closeInterval_frame]
  case settled => rwa [settleDay_frame]
  case postTaken d =>
    intro i
    rw [takePost_noticePort]
    exact NoticePort.take_lawful _ _ (hs i)
  case taskServed => rwa [serveTask_frame]
  case deferredTaskServed => rwa [serveTask_frame]
  all_goals exact hs

theorem Move.noticeLaw (h : Move c s₀ s t) (hs : NoticeLaw s) : NoticeLaw t := by
  cases h
  case effect h => exact h.noticeLaw hs
  case port p ps => cases p <;> exact hs
  case noticesReset i => exact setNoticePort_noticeLaw hs NoticePort.reset_lawful
  case reset =>
    intro i
    rw [deviceReset_noticePort]
    exact NoticePort.reset_lawful
  all_goals exact hs

/-- Every kind with every subject (R167). -/
def noticeKeys : List (Nat × Option LaneId) :=
  ([1, 2, 3].flatMap fun code => (List.finRange 6).map fun k => (code, some k)) ++ [4, 5, 6, 7, 8, 9, 10].map fun code => (code, none)

theorem noticeKey_mem (d : NoticeDetail) : noticeKey d ∈ noticeKeys := by
  cases d <;> simp [noticeKey, noticeCode, noticeSubject, noticeKeys]

/-- Settles O60: the moves of the notice unit keep the law of its queues, and a queue without repetition is no longer than the
list of all kinds with their subjects. -/
theorem noticeQueuesStayDistinct : Obligations.NoticeQueuesStayDistinct := by
  refine ⟨fun s t hs h => step_keeps (fun _ _ hu => hu) (fun _ _ _ _ hu hm => hm.noticeLaw hu) hs h, fun n hn => ?_⟩
  have hsubset : n.queue.map (fun q => noticeKey q.detail) ⊆ noticeKeys := fun x hx => by
    obtain ⟨q, -, rfl⟩ := List.mem_map.mp hx
    exact noticeKey_mem _
  simpa [noticeKeys] using (List.subperm_of_subset hn.1 hsubset).length_le

end Sys2Proof.Machine
end

section
/-! PROOF. The requests that a lane unit serves at an open port: LANE STATE, LANE ACK and the RELEASE rows (R57, R61, R65 to R67). -/

namespace Sys2Proof.Machine

variable {s t : State}

/-! ## Reading a request at its port -/

@[simp] theorem setPort_laneCtx (s : State) (p : Port) (ps : PortState) (k : LaneId) :
    (s.setPort p ps).laneCtx k = s.laneCtx k := by
  cases p <;> rfl

@[simp] theorem applyLane_port (s : State) (k : LaneId) (o : LaneOut) (p : Port) : (s.applyLane k o).port p = s.port p := by
  cases p <;> rfl

@[simp] theorem setLane_port (s : State) (k : LaneId) (l : Lane) (p : Port) : (s.setLane k l).port p = s.port p := by
  cases p <;> rfl

@[simp] theorem setLane_lane_self (s : State) (k : LaneId) : s.setLane k (s.lane k) = s := by
  simp [State.setLane, State.lane]

/-- A lane number in a byte is read back (R166). -/
@[simp] theorem laneOfByte_ofNat (k : LaneId) : laneOfByte (BitVec.ofNat 8 k.val) = some k := by
  have hk : k.val % 2 ^ 8 = k.val := Nat.mod_eq_of_lt (k.isLt.trans (by decide))
  have hlt : k.val < 6 := k.isLt
  simp only [laneOfByte, BitVec.toNat_ofNat, hk, hlt, dif_pos, Fin.eta]

theorem laneOfByte_eq_none {b : Byte} (h : 6 ≤ b.toNat) : laneOfByte b = none :=
  dif_neg (Nat.not_lt.mpr h)

/-! ## LANE STATE -/

theorem exec_laneState_open {i : StationId} {tag st : Byte} {k : LaneId} {target : LaneState} (hopen : Open s (.station i))
    (hst : laneStateOfByte st = some target) {code : Code}
    (hcode : laneStateCheck (decide (k.val < s.profile.lanesEnabled)) s.timebase.status (s.lane k) target = code) :
    exec (.laneState (.station i) tag [BitVec.ofNat 8 k.val, st]) s =
      .next
        (if code = .ok then
          (s.applyLane k (commandState (s.laneCtx k) (s.lane k) target)).answered (.station i) 0x10 tag .ok
            (laneStateBytes k (commandState (s.laneCtx k) (s.lane k) target).lane)
        else s.answered (.station i) 0x10 tag code (laneStateBytes k (s.lane k))) := by
  subst hcode
  have hbody : laneStateBody [BitVec.ofNat 8 k.val, st] = some (k, some target) := by simp [laneStateBody, hst]
  refine congrArg Host.Outcome.next ?_
  split_ifs with hok
  · refine requestUnit_answered tag hopen rfl (applyLane_port ..) fun ps => ?_
    simp only [serveLaneState, hbody, setPort_profile, setPort_timebase, setPort_lane, setPort_laneCtx, hok, if_true,
      setPort_applyLane]
  · refine requestUnit_reported tag hopen rfl fun ps => ?_
    simp only [serveLaneState, hbody, setPort_profile, setPort_timebase, setPort_lane, hok, if_false]

/-- The LANE_STATE post tells the current from another state. -/
theorem stateDetail_ne_of_current {k : LaneId} {l l' : Lane} (h : l'.current ≠ l.current) : l.stateDetail k ≠ l'.stateDetail k := by
  intro heq
  simp only [Lane.stateDetail, NoticeDetail.laneState.injEq] at heq
  exact h heq.2.1.symm

/-- A transition to another state posts LANE_STATE (R62). -/
theorem commandState_moved {lc : LaneCtx} {l : Lane} {target : LaneState} (hne : target ≠ l.current)
    (hmove : (moveTo lc l target).lane.current = target) :
    commandState lc l target =
      { moveTo lc l target with
        posts := (moveTo lc l target).posts ++ [(moveTo lc l target).lane.stateDetail lc.k] } := by
  have hdetail : l.stateDetail lc.k ≠ (moveTo lc l target).lane.stateDetail lc.k :=
    stateDetail_ne_of_current (by rwa [hmove])
  simp [commandState, hne, withStatePost, hdetail]

theorem releaseHead_of_settled {lc : LaneCtx} {l : Lane} (h : l.inflight = [] ∨ l.headReleased = true) :
    releaseHead lc l = l := by
  unfold releaseHead Lane.headReleased at *
  cases hlist : l.inflight with
  | nil => rfl
  | cons e rest =>
    rw [hlist] at h
    have he : e.released = true := by simpa using h
    simp [he]

theorem releaseHead_of_waiting {lc : LaneCtx} {l : Lane} {e : Entry} {rest : List Entry} (hlist : l.inflight = e :: rest)
    (he : e.release = none) : releaseHead lc l = { l with inflight := e.releaseAt lc :: rest, output := true } := by
  simp [releaseHead, hlist, Entry.released, he]

/-- The tasks of a list of entries, entry by entry (R21). -/
theorem flatMap_task {lc : LaneCtx} {kind : TaskKind} (f : Entry → Option Task) (hf : ∀ e, e.task lc kind = (f e).toList)
    (es : List Entry) : es.flatMap (fun e => e.task lc kind) = es.filterMap f := by
  rw [List.filterMap_eq_flatMap_toList]
  simp only [hf]

/-- Settles O39, by the transition. -/
theorem laneStateMovesTheLane : Obligations.LaneStateMovesTheLane := by
  intro s i tag st k target hopen hst l sent refused accepted moved free
  have henabled : free → ¬ (decide (k.val < s.profile.lanesEnabled) = false ∧ target ≠ .shut) := by
    rintro hfree ⟨hdisabled, hne⟩
    exact hfree.elim hne (of_decide_eq_false hdisabled)
  have hrefused {code : Code}
      (hcode : laneStateCheck (decide (k.val < s.profile.lanesEnabled)) s.timebase.status l target = code) (hne : code ≠ .ok) :
      refused code := by
    refine (exec_laneState_open hopen hst hcode).trans ?_
    rw [if_neg hne]
  have haccepted {o : LaneOut}
      (hok : laneStateCheck (decide (k.val < s.profile.lanesEnabled)) s.timebase.status l target = .ok)
      (ho : commandState (s.laneCtx k) l target = o) : accepted o := by
    refine (exec_laneState_open hopen hst hok).trans ?_
    rw [if_pos rfl]
    exact ho ▸ rfl
  have hcheck (hfree : free) : laneStateCheck (decide (k.val < s.profile.lanesEnabled)) s.timebase.status l target =
      laneStateCheck true s.timebase.status l target := by
    unfold laneStateCheck
    rw [if_neg (henabled hfree)]
    simp
  have hmoved {m : Lane}
      (hok : laneStateCheck (decide (k.val < s.profile.lanesEnabled)) s.timebase.status l target = .ok)
      (hne : target ≠ l.current) (hm : moveTo (s.laneCtx k) l target = { lane := m }) (hcur : m.current = target) : moved m := by
    refine haccepted hok ?_
    rw [commandState_moved hne (by rw [hm]; exact hcur), hm]
    rfl
  refine ⟨fun hfree => ?_, fun hfree hsame => ?_, fun hfree hpair => ?_, fun hfree hpair => ?_, fun hfree htarget hcur => ?_,
    fun hfree htarget hcur => ?_, fun htarget hne => ?_⟩
  · obtain ⟨hne, hdisabled⟩ := not_or.mp hfree
    exact hrefused (by simp [laneStateCheck, hdisabled, hne]) (by simp)
  · refine haccepted ((hcheck hfree).trans (by simp [laneStateCheck, hsame])) ?_
    by_cases hrequested : l.requested = target
    · simp [commandState, hsame, withStatePost, Lane.stateDetail, hsame ▸ hrequested]
    · simp [commandState, hsame, withStatePost, Lane.stateDetail, hsame ▸ hrequested]
      rfl
  · refine hrefused (code := .invalidTransition) ((hcheck hfree).trans ?_) (by simp)
    simp only [List.mem_cons, Prod.mk.injEq, List.not_mem_nil, or_false] at hpair
    obtain ⟨hcur, rfl⟩ | ⟨hcur, rfl⟩ | ⟨hcur, rfl⟩ | ⟨hcur, rfl⟩ := hpair <;> simp [laneStateCheck, hcur]
  · simp only [List.mem_cons, Prod.mk.injEq, List.not_mem_nil, or_false] at hpair
    refine ⟨fun herr => ?_, fun herr hcur hstatus => ?_, fun herr htarget hlist => ?_, fun herr hcur hstatus => ?_,
      fun herr htarget hlist => ?_, fun herr htarget hlist => ?_, fun e rest herr htarget hlist he => ?_⟩
    · refine hrefused (code := .errorPending) ((hcheck hfree).trans ?_) (by simp)
      obtain ⟨hcur, rfl⟩ | ⟨hcur, rfl⟩ | ⟨hcur, rfl⟩ := hpair <;> simp [laneStateCheck, hcur, herr]
    · obtain rfl : target = .attended := by simpa [hcur] using hpair
      exact hrefused (code := .timeUnset) ((hcheck hfree).trans (by simp [laneStateCheck, hcur, herr, hstatus])) (by simp)
    · subst htarget
      have hcur : l.current = .attended := by simpa using hpair
      exact hrefused (code := .laneBusy) ((hcheck hfree).trans (by simp [laneStateCheck, hcur, herr, hlist])) (by simp)
    · obtain rfl : target = .attended := by simpa [hcur] using hpair
      exact hmoved ((hcheck hfree).trans (by simp [laneStateCheck, hcur, herr, hstatus])) (by simp [hcur])
        (by simp [moveTo, hcur]) rfl
    · subst htarget
      have hcur : l.current = .attended := by simpa using hpair
      exact hmoved ((hcheck hfree).trans (by simp [laneStateCheck, hcur, herr, hlist])) (by simp [hcur]) rfl rfl
    · subst htarget
      have hcur : l.current = .attended := by simpa using hpair
      refine hmoved ((hcheck hfree).trans (by simp [laneStateCheck, hcur, herr])) (by simp [hcur]) ?_ rfl
      exact congrArg (fun m => ({ lane := m } : LaneOut)) (releaseHead_of_settled hlist)
    · subst htarget
      have hcur : l.current = .attended := by simpa using hpair
      refine hmoved ((hcheck hfree).trans (by simp [laneStateCheck, hcur, herr])) (by simp [hcur]) ?_ rfl
      exact congrArg (fun m => ({ lane := m } : LaneOut)) (releaseHead_of_waiting hlist he)
  · subst htarget
    exact hmoved ((hcheck hfree).trans (by simp [laneStateCheck, hcur])) (by simp [hcur]) (by simp [moveTo, hcur]) rfl
  · subst htarget
    exact hmoved ((hcheck hfree).trans (by simp [laneStateCheck, hcur])) (by simp [hcur]) (by simp [moveTo, hcur]) rfl
  · subst htarget
    intro m
    refine haccepted ((hcheck (.inl rfl)).trans (by simp [laneStateCheck])) ?_
    rw [commandState_moved hne.symm rfl]
    simp only [moveTo, enterShut, LaneOut.mk.injEq]
    refine ⟨rfl, flatMap_task _ (fun e => ?_) _, List.map_const' .., rfl⟩
    unfold Entry.task
    cases e.kind <;> rfl

/-! ## LANE ACK -/

/-- Settles O40: the indication set and clear. -/
theorem laneAckClearsTheIndication : Obligations.LaneAckClearsTheIndication := by
  intro s i tag k hopen l sent cleared
  have hbody : laneBody [BitVec.ofNat 8 k.val] = some k := laneOfByte_ofNat k
  have hsent : sent = .next ((s.applyLane k (ackLane (s.laneCtx k) l)).answered (.station i) 0x11 tag .ok
      (laneAckBytes k (ackLane (s.laneCtx k) l).lane)) := by
    refine congrArg Host.Outcome.next (requestUnit_answered tag hopen rfl (applyLane_port ..) fun ps => ?_)
    simp only [serveLaneAck, hbody, setPort_lane, setPort_laneCtx, setPort_applyLane]
    rfl
  refine ⟨fun hflag => ?_, fun hflag => ?_⟩ <;> rw [hsent]
  · have hack : ackLane (s.laneCtx k) l = { lane := l } := by simp [ackLane, hflag]
    rw [hack, applyLane_lane_only, setLane_lane_self]
    simp [laneAckBytes, hflag, boolByte]
  · have hack : ackLane (s.laneCtx k) l =
        { lane := cleared
          posts := (if l.causeSensor then [.sensorHealth k .sound 0] else []) ++
            [.laneState k l.current l.requested none false false false] } := by
      have hdetail (m : Lane) (hm : m.errorFlag = false) :
          l.stateDetail (s.laneCtx k).k ≠ m.stateDetail (s.laneCtx k).k := by
        simp [Lane.stateDetail, hflag, hm]
      by_cases hsensor : l.causeSensor = true
      · simp only [ackLane, hflag, hsensor, cleared, if_true, withStatePost]
        rw [if_neg (by simp), if_neg (hdetail _ rfl)]
        rfl
      · simp only [ackLane, hflag, hsensor, cleared, withStatePost]
        rw [if_neg (by simp), if_neg (by simp), if_neg (hdetail _ rfl)]
        rfl
    rw [hack]
    simp [laneAckBytes, cleared, boolByte, causeCode, beBytes]

/-! ## RELEASE -/

theorem waitingHead_of_waiting {l : Lane} {e : Entry} {rest : List Entry} (hcur : l.current = .attended)
    (hlist : l.inflight = e :: rest) (he : e.release = none) : waitingHead l = some e := by
  simp [waitingHead, hlist, hcur, Entry.released, he]

theorem waitingHead_eq_none {l : Lane} (h : l.current ≠ .attended ∨ l.inflight = [] ∨ l.headReleased = true) :
    waitingHead l = none := by
  unfold waitingHead Lane.headReleased at *
  cases hlist : l.inflight with
  | nil => rfl
  | cons e rest => simpa [hlist, imp_iff_not_or] using h

theorem newEntry_not_over {lc : LaneCtx} (kind : EntryKind) (h : 0 < lc.timeout) :
    (newEntry lc kind).admissionOver lc.elapsed = false := by
  simpa [Entry.admissionOver, newEntry] using h.ne'

/-- A new entry stands at the end of the list, released at once as a head in SELF (R63, R64, R71). -/
theorem joinEntry_eq {lc : LaneCtx} {l : Lane} (kind : EntryKind) (hstate : l.current = .self ∨ l.current = .attended)
    (h : 0 < lc.timeout) :
    joinEntry lc l (newEntry lc kind) =
      { lane :=
          { l with
            inflight :=
              l.inflight ++
                [{ newEntry lc kind with
                    release :=
                      if l.inflight = [] ∧ l.current = .self then
                        some { mark := lc.elapsed, timeout := lc.timeout, pulse := lc.pulse }
                      else none }]
            output := if l.inflight = [] then l.current == .self else l.output } } := by
  have hover := newEntry_not_over kind h
  by_cases hnil : l.inflight = []
  · rcases hstate with hcur | hcur
    · simp [joinEntry, settleHead, hnil, hcur, Entry.releaseAt]
    · simp [joinEntry, settleHead, hnil, hcur, hover]
      rfl
  · simp [joinEntry, hnil, newEntry]

/-- Settles O41: the three actions by the lane's state and list. -/
theorem releasesActOnTheList : Obligations.ReleasesActOnTheList := by
  constructor
  · intro s i tag k hopen l go deny voids balk denied
    have hbody : releaseBody .go [BitVec.ofNat 8 k.val, 0] = some k := laneOfByte_ofNat k
    have hbody' : releaseBody .deny [BitVec.ofNat 8 k.val, 1] = some k := laneOfByte_ofNat k
    refine ⟨fun e rest hcur hlist he => ?_, fun hnone => ?_⟩
    · have hwait : waitingHead (s.lane k) = some e := waitingHead_of_waiting hcur hlist he
      have hdenied {o : LaneOut} (ho : balkHead (s.laneCtx k) l = o) : denied e o := by
        subst ho
        refine congrArg Host.Outcome.next (requestUnit_answered tag hopen rfl (applyLane_port ..) fun ps => ?_)
        simp only [serveDeny, hbody', setPort_lane, hwait, setPort_laneCtx, setPort_applyLane]
        rfl
      refine ⟨?_, fun hrest => hdenied ?_, fun f hrest => ⟨fun hover => hdenied ?_, fun hover => hdenied ?_⟩⟩
      · refine congrArg Host.Outcome.next (requestUnit_answered tag hopen rfl (setLane_port ..) fun ps => ?_)
        have hrelease : releaseHead (s.laneCtx k) (s.lane k) = _ := releaseHead_of_waiting hlist he
        simp only [serveGo, hbody, setPort_lane, hwait, setPort_laneCtx, setPort_setLane, hrelease]
        rfl
      · simp [balkHead, hlist, hrest, settleHead, hcur, voids, balk]
        rfl
      · have hwaits : f.admissionOver s.elapsed = false := by simpa [Entry.admissionOver] using hover
        simp [balkHead, hlist, hrest, settleHead, hcur, State.laneCtx, hwaits, voids, balk]
      · have hpassed : f.admissionOver s.elapsed = true := by simpa [Entry.admissionOver] using hover
        simp [balkHead, hlist, hrest, settleHead, hcur, State.laneCtx, hpassed, voids, balk]
    · have hwait : waitingHead (s.lane k) = none := waitingHead_eq_none hnone
      refine ⟨congrArg Host.Outcome.next (requestUnit_reported tag hopen rfl fun ps => ?_),
        congrArg Host.Outcome.next (requestUnit_reported tag hopen rfl fun ps => ?_)⟩
      · simp only [serveGo, hbody, setPort_lane, hwait]
      · simp only [serveDeny, hbody', setPort_lane, hwait]
  · intro s i tag k hopen htimeout l sent open' entry
    have hbody : releaseBody .free [BitVec.ofNat 8 k.val, 2] = some k := laneOfByte_ofNat k
    have hopened (hstate : open') : ¬ ((s.lane k).current = .shut ∨ (s.lane k).current = .observe) := by
      rcases hstate with hcur | hcur <;> simp [show (s.lane k).current = _ from hcur]
    refine ⟨fun hstate => ?_, fun hstate hfull => ?_, fun hstate hroom => ?_⟩
    · have hclosed : (s.lane k).current = .shut ∨ (s.lane k).current = .observe := by
        by_contra hne
        obtain ⟨hshut, hobserve⟩ := not_or.mp hne
        exact hstate (laneState_self_or_attended hshut hobserve)
      refine congrArg Host.Outcome.next (requestUnit_reported tag hopen rfl fun ps => ?_)
      simp only [serveFree, hbody, setPort_lane, hclosed, if_true]
    · have hfull' : Config.inFlightMax ≤ (s.lane k).inflight.length := hfull
      refine congrArg Host.Outcome.next (requestUnit_reported tag hopen rfl fun ps => ?_)
      simp only [serveFree, hbody, setPort_lane, hopened hstate, hfull', if_true, if_false]
    · have hroom' : ¬ Config.inFlightMax ≤ (s.lane k).inflight.length := Nat.not_le.mpr hroom
      have hjoin := joinEntry_eq (lc := s.laneCtx k) .free hstate (Nat.mul_pos htimeout (by decide))
      refine congrArg Host.Outcome.next (requestUnit_answered tag hopen rfl (setLane_port ..) fun ps => ?_)
      have hplace : freeBytes (joinPosition l) = zeros 10 ++ [if l.inflight = [] then 1 else 2] := by
        unfold freeBytes joinPosition
        split <;> rfl
      simp only [serveFree, hbody, setPort_lane, hopened hstate, hroom', if_false, setPort_laneCtx]
      change ({ state := _, code := _, body := freeBytes (joinPosition l) } : Served) = _
      rw [show joinEntry (s.laneCtx k) (s.lane k) _ = _ from hjoin, applyLane_lane_only, setPort_setLane, hplace]
      rfl

end Sys2Proof.Machine
end

section
/-! PROOF. The requests of the other units at an open port: what those that only report answer, what a body of no form is answered,
and what the releases of log and journal remove (R57 to R67, R82, R96, R97, R120, R143, R149, R169, R170, R175). -/

namespace Sys2Proof.Machine

variable {s t : State}

/-! ## Reports -/

theorem exec_laneStatus_station {i : StationId} (tag : Byte) (k : LaneId) (hopen : Open s (.station i)) :
    exec (.laneStatus (.station i) tag [BitVec.ofNat 8 k.val]) s =
      .next (s.answered (.station i) 0x02 tag .ok (laneStatusBytes (s.lane k) s.profile.modeOf[k.val])) := by
  refine congrArg Host.Outcome.next (requestUnit_reported tag hopen rfl fun ps => ?_)
  simp only [serveLaneStatus, laneOfByte_ofNat, setPort_lane, setPort_profile]

theorem exec_laneStatus_lane {k : LaneId} (tag b : Byte) (hopen : Open s (.lane k)) :
    exec (.laneStatus (.lane k) tag [b]) s =
      .next
        (if b.toNat = k.val then
          s.answered (.lane k) 0x02 tag .ok (laneStatusBytes (s.lane k) s.profile.modeOf[k.val])
        else s.answered (.lane k) 0x02 tag .notPermitted (zeros 33)) := by
  refine congrArg Host.Outcome.next ?_
  split_ifs with hb
  · refine requestUnit_reported tag hopen rfl fun ps => ?_
    simp only [serveLaneStatus, hb, if_true, setPort_lane, setPort_profile]
  · refine requestUnit_reported tag hopen rfl fun ps => ?_
    simp only [serveLaneStatus, hb, if_false]

theorem oneSequence_beBytes (n : Count32) : oneSequence (beBytes 4 n.toNat) = some n := by
  simp [oneSequence, oneNumber_beBytes 4 n.toNat n.isLt]

/-- The totals of a LOG READ, lane by lane (R96). -/
theorem totalsBytes_eq (u : CountUnit) :
    u.totalsBytes = (List.finRange 6).flatMap fun k => beBytes 4 u.lifetime[k.val].toNat ++ beBytes 4 u.released[k.val].toNat := by
  have hzip : u.lifetime.toList.zip u.released.toList =
      (List.finRange 6).map fun k => (u.lifetime[k.val], u.released[k.val]) :=
    List.ext_getElem (by simp) fun j _ _ => by simp
  simp [CountUnit.totalsBytes, hzip, List.flatMap_map]

theorem oldestSeq_eq (u : CountUnit) : u.oldestSeq = (u.log.map LogRecord.seq).headD u.nextSeq := by
  unfold CountUnit.oldestSeq
  cases u.log <;> rfl

theorem RefundUnit.oldestSeq_eq (u : RefundUnit) : u.oldestSeq = (u.journal.map JournalRecord.seq).headD u.nextSeq := by
  unfold RefundUnit.oldestSeq
  cases u.journal <;> rfl

theorem exec_logRead_open {i : StationId} (tag : Byte) (n : Count32) (hopen : Open s (.station i)) :
    exec (.logRead (.station i) tag (beBytes 4 n.toNat)) s =
      .next
        (s.answered (.station i) 0x50 tag .ok
          (beBytes 1 (s.count.readFrom n).length ++ beBytes 1 s.count.log.length ++ beBytes 4 s.count.oldestSeq.toNat ++
            beBytes 4 s.count.nextSeq.toNat ++ s.count.totalsBytes ++ (s.count.readFrom n).flatMap logBytes)) := by
  refine congrArg Host.Outcome.next (requestUnit_reported tag hopen rfl fun ps => ?_)
  simp only [serveLogRead, oneSequence_beBytes, setPort_count]

@[simp] theorem timeBytes_setPort (s : State) (p : Port) (ps : PortState) : timeBytes (s.setPort p ps) = timeBytes s := by
  cases p <;> rfl

/-- What stands first in the rest of a run fails the run's test. -/
theorem of_head?_dropWhile {α : Type} {p : α → Bool} {l : List α} {x : α} (h : (l.dropWhile p).head? = some x) : p x = false := by
  have hhead := List.head?_dropWhile_not p l
  rw [h] at hhead
  simpa using hhead

theorem of_mem_takeWhile {α : Type} {p : α → Bool} {l : List α} {x : α} (h : x ∈ l.takeWhile p) : p x = true :=
  List.all_eq_true.mp List.all_takeWhile x h

/-- A list splits at the first element from which a read of at most `n` begins, and after what is read. -/
theorem readSplit {α : Type} (p : α → Bool) (n : Nat) (l : List α) :
    ∃ skipped rest, l = skipped ++ ((l.dropWhile (fun x => !p x)).take n ++ rest) ∧ (∀ x ∈ skipped, p x = false) ∧
      (∀ x, ((l.dropWhile (fun x => !p x)).take n).head? = some x → p x = true) ∧
      (rest ≠ [] → ((l.dropWhile (fun x => !p x)).take n).length = n) := by
  refine ⟨l.takeWhile (fun x => !p x), (l.dropWhile (fun x => !p x)).drop n, ?_, fun x hx => ?_, fun x hx => ?_, fun hrest => ?_⟩
  · rw [List.take_append_drop, List.takeWhile_append_dropWhile]
  · simpa using of_mem_takeWhile hx
  · rw [List.head?_take] at hx
    split at hx
    · cases hx
    · simpa using of_head?_dropWhile hx
  · have hlong := List.length_pos_of_ne_nil hrest
    rw [List.length_drop] at hlong
    rw [List.length_take]
    exact Nat.min_eq_left (Nat.le_of_lt (Nat.lt_of_sub_pos hlong))

/-- Settles O57: LANE STATUS by port and lane, and the three reports of a station port. -/
theorem unitReadsChangeNothing : Obligations.UnitReadsChangeNothing := by
  constructor
  · intro s k tag status
    have hk : (BitVec.ofNat 8 k.val : Byte).toNat = k.val := Nat.mod_eq_of_lt (k.isLt.trans (by decide))
    refine ⟨fun hopen => ⟨?_, fun b hb => ?_⟩, fun i hopen => exec_laneStatus_station tag k hopen⟩
    · rw [exec_laneStatus_lane tag _ hopen, if_pos hk]
    · rw [exec_laneStatus_lane tag _ hopen, if_neg hb]
  · intro s i tag hopen
    refine ⟨fun n => ?_, ?_, ?_⟩
    · have hread := exec_logRead_open tag n hopen
      rw [totalsBytes_eq, oldestSeq_eq] at hread
      obtain ⟨skipped, rest, hsplit, hskipped, hfirst, hfull⟩ := readSplit (fun r : LogRecord => atOrAfter r.seq n) 2 s.count.log
      refine ⟨skipped, s.count.readFrom n, rest, hsplit, fun r hr => ?_, fun r hr => ?_, List.length_take_le .., hfull, hread⟩
      · simpa [atOrAfter] using hskipped r hr
      · simpa [atOrAfter] using hfirst r hr
    · refine congrArg Host.Outcome.next (requestUnit_reported tag hopen rfl fun ps => ?_)
      simp only [serveReadTime, if_true, timeBytes_setPort]
    · refine congrArg Host.Outcome.next (requestUnit_reported tag hopen rfl fun ps => ?_)
      simp only [serveReadProfile, if_true, setPort_profile, setPort_timebase]
      rfl

/-! ## Bodies of no form -/

theorem laneBody_eq_none {body : List Byte} (h : body.length ≠ 1 ∨ 6 ≤ (body.getD 0 0).toNat) : laneBody body = none := by
  unfold laneBody
  split
  · exact laneOfByte_eq_none (by simpa using h)
  · rfl

theorem laneStateBody_eq_none {body : List Byte} (h : body.length ≠ 2 ∨ 6 ≤ (body.getD 0 0).toNat) :
    laneStateBody body = none := by
  unfold laneStateBody
  split
  · rw [laneOfByte_eq_none (by simpa using h)]
    rfl
  · rfl

theorem releaseBody_eq_none (a : ReleaseAction) {body : List Byte} (h : body.length ≠ 2 ∨ 6 ≤ (body.getD 0 0).toNat) :
    releaseBody a body = none := by
  unfold releaseBody
  split
  · split
    · exact laneOfByte_eq_none (by simpa using h)
    · rfl
  · rfl

theorem releaseBody_of_action {a : ReleaseAction} {body : List Byte} (h : (body.getD 1 0) ≠ a.code) : releaseBody a body = none := by
  unfold releaseBody
  split
  · exact if_neg (by simpa using h)
  · rfl

theorem laneStateOfByte_eq_none {b : Byte} (h : 4 ≤ b.toNat) : laneStateOfByte b = none := by
  have hne (n : Nat) (hn : n < 4) : b ≠ BitVec.ofNat 8 n := by
    rintro rfl
    rw [BitVec.toNat_ofNat, Nat.mod_eq_of_lt (hn.trans (by decide))] at h
    omega
  unfold laneStateOfByte
  rw [if_neg (show b ≠ 0 from hne 0 (by decide)), if_neg (show b ≠ 1 from hne 1 (by decide)),
    if_neg (show b ≠ 2 from hne 2 (by decide)), if_neg (show b ≠ 3 from hne 3 (by decide))]

theorem referenceBody_eq_none {body : List Byte} (h : body.length ≠ 6 ∨ 2 ≤ (body.getD 5 0).toNat) : referenceBody body = none := by
  unfold referenceBody
  split
  · rename_i hlen
    have hforce := h.resolve_left (not_not_intro hlen)
    have hne (n : Nat) (hn : n < 2) : body.getD 5 0 ≠ BitVec.ofNat 8 n := by
      intro heq
      rw [heq, BitVec.toNat_ofNat, Nat.mod_eq_of_lt (hn.trans (by decide))] at hforce
      omega
    unfold boolOfByte
    rw [if_neg (show body.getD 5 0 ≠ 0 from hne 0 (by decide)), if_neg (show body.getD 5 0 ≠ 1 from hne 1 (by decide))]
    rfl
  · rfl

theorem oneNumber_eq_none {n : Nat} {body : List Byte} (h : body.length ≠ n) : oneNumber n body = none := if_neg h

theorem oneSequence_eq_none {body : List Byte} (h : body.length ≠ 4) : oneSequence body = none := by
  rw [oneSequence, oneNumber_eq_none h]
  rfl

theorem maskBody_eq_none {body : List Byte} (h : body.length ≠ 2) : maskBody body = none := by
  rw [maskBody, oneNumber_eq_none h]

/-- Settles O58: each form fails before the unit acts. -/
theorem malformedUnitBodiesAreBadArgument : Obligations.MalformedUnitBodiesAreBadArgument := by
  constructor
  · intro s k tag body hopen hlen
    refine congrArg Host.Outcome.next (requestUnit_reported tag hopen rfl fun ps => ?_)
    unfold serveLaneStatus
    split
    · exact absurd rfl hlen
    · rfl
  · intro s i tag body hopen p bad
    have hbad {k : Kind} {serve : State → Served} {answer : List Byte} (hp : permitted k p = true)
        (h : ∀ ps, serve (s.setPort p ps) = { state := s.setPort p ps, code := .badArgument, body := answer }) :
        (Host.Outcome.next (s.requestUnit p k tag serve) : Host.Outcome State Fault Refusal) =
          .next (s.answered p k.code tag .badArgument answer) :=
      congrArg Host.Outcome.next (requestUnit_reported tag hopen hp h)
    have hgo (h : releaseBody .go body = none) : bad (.releaseGo p tag body) 0x12 (zeros 11) :=
      hbad (k := .release) rfl fun ps => by simp only [serveGo, h]
    have hdeny (h : releaseBody .deny body = none) : bad (.releaseDeny p tag body) 0x12 (zeros 11) :=
      hbad (k := .release) rfl fun ps => by simp only [serveDeny, h]
    have hfree (h : releaseBody .free body = none) : bad (.releaseFree p tag body) 0x12 (zeros 11) :=
      hbad (k := .release) rfl fun ps => by simp only [serveFree, h]
    refine ⟨fun h => ⟨?_, ?_⟩, fun h => ⟨?_, hgo (releaseBody_eq_none _ h), hdeny (releaseBody_eq_none _ h),
      hfree (releaseBody_eq_none _ h)⟩, fun k st hbody hst => ?_, fun h => hgo (releaseBody_of_action ?_),
      fun h => hdeny (releaseBody_of_action ?_), fun h => hfree (releaseBody_of_action ?_), fun h => ⟨?_, ?_⟩, fun h => ?_,
      fun h => ⟨?_, ?_, ?_⟩, fun h => ?_⟩
    · refine hbad (k := .laneStatus) rfl fun ps => ?_
      unfold serveLaneStatus
      split
      · rw [laneOfByte_eq_none (by simpa using h)]
      · rfl
    · exact hbad (k := .laneAck) rfl fun ps => by simp only [serveLaneAck, laneBody_eq_none h]
    · exact hbad (k := .laneState) rfl fun ps => by simp only [serveLaneState, laneStateBody_eq_none h]
    · subst hbody
      intro l
      refine hbad (k := .laneState) rfl fun ps => ?_
      simp only [serveLaneState, laneStateBody, laneOfByte_ofNat, laneStateOfByte_eq_none hst, Option.map_some, setPort_lane]
      rfl
    · exact fun heq => h (congrArg BitVec.toNat heq)
    · exact fun heq => h (congrArg BitVec.toNat heq)
    · exact fun heq => h (congrArg BitVec.toNat heq)
    · exact hbad (k := .logRead) rfl fun ps => by simp only [serveLogRead, oneSequence_eq_none h]
    · exact hbad (k := .logRelease) rfl fun ps => by simp only [serveLogRelease, oneSequence_eq_none h]
    · refine hbad (k := .timeReference) rfl fun ps => ?_
      simp only [serveReference, referenceBody_eq_none h, referenceBytes_setPort]
      rfl
    · exact hbad (k := .readTime) rfl fun ps => by simp only [serveReadTime, h, if_false]
    · exact hbad (k := .readProfile) rfl fun ps => by simp only [serveReadProfile, h, if_false]
    · exact hbad (k := .fetchNotices) rfl fun ps => by simp only [serveFetch, p, h, if_false]
    · exact hbad (k := .subscribe) rfl fun ps => by simp only [serveSubscribe, p, maskBody_eq_none h]

/-! ## Releases -/

/-- Settles O38: a release removes the run of the records at or before the number. -/
theorem releasesRemoveTheOldestRun : Obligations.ReleasesRemoveTheOldestRun := by
  intro s i n
  refine ⟨⟨s.refund.journal.takeWhile fun j => atOrAfter n j.seq, s.refund.journal.dropWhile fun j => atOrAfter n j.seq,
    List.takeWhile_append_dropWhile.symm, fun j hj => ?_, fun j hj => ?_, ?_⟩, fun tag hopen => ?_⟩
  · simpa [atOrAfter] using of_mem_takeWhile hj
  · simpa [atOrAfter] using of_head?_dropWhile hj
  · have hremoved : (s.refund.journal.takeWhile fun j => atOrAfter n j.seq).length =
        s.refund.journal.length - (s.refund.journal.dropWhile fun j => atOrAfter n j.seq).length := by
      rw [← Nat.add_sub_cancel (List.length _), ← List.length_append, List.takeWhile_append_dropWhile]
    rw [hremoved]
    change CommitResult.answered (serveJournalRelease s n) = _
    simp only [serveJournalRelease, RefundUnit.oldestSeq_eq]
    rfl
  · refine ⟨releasedRun s.count.log n, s.count.log.dropWhile fun r => atOrAfter n r.seq, s.count.release n,
      List.takeWhile_append_dropWhile.symm, fun r hr => ?_, fun r hr => ?_, fun k => by simp [CountUnit.release], rfl, ?_⟩
    · simpa [atOrAfter] using of_mem_takeWhile hr
    · simpa [atOrAfter] using of_head?_dropWhile hr
    · refine congrArg Host.Outcome.next (requestUnit_answered tag hopen rfl rfl fun ps => ?_)
      simp only [serveLogRelease, oneSequence_beBytes, setPort_count, oldestSeq_eq]
      rfl

end Sys2Proof.Machine
end

section
/-! PROOF. The events of a lane other than requests: the ends of its durations and the edges of its sensors (R64 to R81). -/

namespace Sys2Proof.Machine

variable {s t : State} {lc : LaneCtx} {l : Lane}

/-! ## The score -/

theorem bandOf_eq_sound_iff (n : Nat) : bandOf n = .sound ↔ n < 96 := by
  unfold bandOf Config.suspectFrom Config.failedFrom
  split_ifs <;> simp <;> omega

theorem bandOf_eq_suspect_iff (n : Nat) : bandOf n = .suspect ↔ 96 ≤ n ∧ n < 192 := by
  unfold bandOf Config.suspectFrom Config.failedFrom
  split_ifs <;> simp <;> omega

/-- The lane after a SENSOR_FAILED cause (R60, R80). -/
theorem raiseCause_sensorFailed (l : Lane) :
    raiseCause .sensorFailed l =
      { l with
        errorFlag := true
        firstCause := if l.errorFlag then l.firstCause else some .sensorFailed
        causeSensor := true
        current := if l.current = .self ∨ l.current = .observe then .attended else l.current
        output := if l.current = .observe then false else l.output } := by
  simp [raiseCause]

theorem raiseCause_sensorFailed_of {m : Lane} (hflag : m.errorFlag = l.errorFlag) (hfirst : m.firstCause = l.firstCause)
    (hcur : m.current = l.current) (hout : m.output = l.output) :
    raiseCause .sensorFailed m =
      { m with
        errorFlag := true
        firstCause := if l.errorFlag then l.firstCause else some .sensorFailed
        causeSensor := true
        current := if l.current = .self ∨ l.current = .observe then .attended else l.current
        output := if l.current = .observe then false else l.output } := by
  rw [raiseCause_sensorFailed, hflag, hfirst, hcur, hout]

/-- A cause that changes nothing that LANE_STATE reports changes nothing of the lane (R60, R62). -/
theorem raiseCause_eq_iff (cause : ErrorCause) (k : LaneId) (l : Lane) :
    l.stateDetail k = (raiseCause cause l).stateDetail k ↔ raiseCause cause l = l := by
  refine ⟨fun h => ?_, fun h => by rw [h]⟩
  have hcur : (raiseCause cause l).current = l.current := by
    simp only [Lane.stateDetail, NoticeDetail.laneState.injEq] at h
    exact h.2.1.symm
  have hobserve : l.current ≠ .observe := by
    intro ho
    simp [raiseCause, ho] at hcur
  simp only [Lane.stateDetail, NoticeDetail.laneState.injEq] at h
  obtain ⟨-, hcurrent, -, hfirst, hflag, hsensor, hlink⟩ := h
  have hout : (raiseCause cause l).output = l.output := by simp [raiseCause, hobserve]
  calc raiseCause cause l
      = { l with
          current := (raiseCause cause l).current, errorFlag := (raiseCause cause l).errorFlag
          firstCause := (raiseCause cause l).firstCause, causeSensor := (raiseCause cause l).causeSensor
          causeLink := (raiseCause cause l).causeLink, output := (raiseCause cause l).output } := rfl
    _ = l := by rw [← hcurrent, ← hfirst, ← hflag, ← hsensor, ← hlink, hout]

/-- A score that moves into FAILED posts SENSOR_HEALTH and is a SENSOR_FAILED cause (R60, R62, R80, R81). -/
theorem setScore_of_failed {n : Nat} (hband : bandOf n ≠ bandOf l.score) (hfailed : bandOf n = .failed) :
    let l1 : Lane := { l with score := n }
    let l2 : Lane := raiseCause .sensorFailed l1
    setScore lc l n =
      { lane := l2
        posts := .sensorHealth lc.k .failed n :: (if l2 = l1 then [] else [l2.stateDetail lc.k]) } := by
  intro l1 l2
  have hset : setScore lc l n =
      LaneOut.andThen { lane := l1, posts := [.sensorHealth lc.k .failed n] } (causeEvent lc .sensorFailed) := by
    unfold setScore
    dsimp only
    rw [if_neg hband.symm, if_pos hfailed, hfailed]
  have hcause : causeEvent lc .sensorFailed l1 =
      { lane := l2, posts := if l2 = l1 then [] else [l2.stateDetail lc.k] } := by
    by_cases hsame : l2 = l1
    · rw [causeEvent, withStatePost, if_pos ((raiseCause_eq_iff ..).mpr hsame), if_pos hsame]
    · rw [causeEvent, withStatePost, if_neg (fun h => hsame ((raiseCause_eq_iff ..).mp h)), if_neg hsame]
      rfl
  rw [hset, LaneOut.andThen, hcause]
  rfl

/-- What a rise of the score sends: nothing within its band, SENSOR_HEALTH on moving into SUSPECT, and with it a SENSOR_FAILED
cause on moving into FAILED (R60, R62, R80, R81). -/
theorem raiseScore_cases (lc : LaneCtx) (l : Lane) (delta : Nat) :
    let n := min 255 (l.score + delta)
    let l1 : Lane := { l with score := n }
    let l2 : Lane := raiseCause .sensorFailed l1
    (bandOf n = bandOf l.score → raiseScore lc l delta = { lane := l1 }) ∧
    (bandOf n ≠ bandOf l.score → n < 192 →
      raiseScore lc l delta = { lane := l1, posts := [.sensorHealth lc.k .suspect n] }) ∧
    (bandOf n ≠ bandOf l.score → 192 ≤ n →
      raiseScore lc l delta =
        { lane := l2
          posts := .sensorHealth lc.k .failed n :: (if l2 = l1 then [] else [l2.stateDetail lc.k]) }) := by
  intro n l1 l2
  refine ⟨fun hband => ?_, fun hband hlow => ?_, fun hband hhigh => ?_⟩
  · exact if_pos hband.symm
  · have hsuspect : bandOf n = .suspect := by
      rw [bandOf_eq_suspect_iff]
      refine ⟨Nat.le_of_not_lt fun hsound => hband ?_, hlow⟩
      have hscore : l.score < 96 := by omega
      rw [(bandOf_eq_sound_iff n).mpr hsound, (bandOf_eq_sound_iff l.score).mpr hscore]
    refine (if_neg (Ne.symm hband)).trans ?_
    change (if bandOf n = .failed then _ else _) = _
    rw [if_neg (by simp [hsuspect])]
    exact hsuspect ▸ rfl
  · exact setScore_of_failed hband ((bandOf_eq_failed_iff n).mpr hhigh)

/-- The same of a lane whose sensors and sequencer an event has changed before. -/
theorem raiseScore_cases_of (lc : LaneCtx) (delta : Nat) {m : Lane} (hscore : m.score = l.score) (hflag : m.errorFlag = l.errorFlag)
    (hfirst : m.firstCause = l.firstCause) (hcur : m.current = l.current) (hout : m.output = l.output) :
    let n := min 255 (l.score + delta)
    let l1 : Lane := { m with score := n }
    let l2 : Lane :=
      { l1 with
        errorFlag := true
        firstCause := if l.errorFlag then l.firstCause else some .sensorFailed
        causeSensor := true
        current := if l.current = .self ∨ l.current = .observe then .attended else l.current
        output := if l.current = .observe then false else l.output }
    (bandOf n = bandOf l.score → raiseScore lc m delta = { lane := l1 }) ∧
    (bandOf n ≠ bandOf l.score → n < 192 →
      raiseScore lc m delta = { lane := l1, posts := [.sensorHealth lc.k .suspect n] }) ∧
    (bandOf n ≠ bandOf l.score → 192 ≤ n →
      raiseScore lc m delta =
        { lane := l2
          posts := .sensorHealth lc.k .failed n :: (if l2 = l1 then [] else [l2.stateDetail lc.k]) }) := by
  intro n l1 l2
  have hl2 : raiseCause .sensorFailed l1 = l2 := raiseCause_sensorFailed_of (m := l1) hflag hfirst hcur hout
  have hcases := raiseScore_cases lc m delta
  rw [hscore] at hcases
  rw [← hl2]
  exact hcases

/-! ## The stuck time -/

theorem exec_stuckLimit_of_nothing {k : LaneId} {x : ArmSensor}
    (h : stuckEvent (s.laneCtx k) (s.lane k) x = { lane := s.lane k }) : exec (.stuckLimit k x) s = .next s := by
  change Host.Outcome.next (s.applyLane k _) = _
  rw [h, applyLane_lane_only, setLane_lane_self]

theorem stuckEvent_of_due {x : ArmSensor} {m : Nat} (hstuck : (l.sensor x).stuck = some { mark := m, counted := false })
    (hdue : m + 20000 ≤ lc.elapsed) :
    stuckEvent lc l x =
      raiseScore lc (l.setSensor x { l.sensor x with stuck := some { mark := m, counted := true } }) 32 := by
  have hdue' : m + Config.stuckLimit ≤ lc.elapsed := hdue
  simp only [stuckEvent, hstuck, hdue', and_self, if_true]
  rfl

/-! ## The entry that becomes head -/

theorem settleHead_nil : settleHead lc l [] = { lane := { l with inflight := [], output := l.current == .observe } } := rfl

theorem settleHead_self (hcur : l.current = .self) (e : Entry) (rest : List Entry) :
    settleHead lc l (e :: rest) = { lane := { l with inflight := e.releaseAt lc :: rest, output := true } } :=
  if_pos hcur

theorem settleHead_waiting (hcur : l.current = .attended) {e : Entry} (rest : List Entry)
    (hwait : lc.elapsed < e.admissionMark + e.admissionTimeout) :
    settleHead lc l (e :: rest) = { lane := { l with inflight := e :: rest, output := false } } := by
  have hover : e.admissionOver lc.elapsed = false := by simpa [Entry.admissionOver] using hwait
  simp [settleHead, hcur, hover]

theorem settleHead_passed (hcur : l.current = .attended) {e : Entry}
    (hpassed : e.admissionMark + e.admissionTimeout ≤ lc.elapsed) :
    settleHead lc l [e] =
      { lane := { l with inflight := [], output := false }
        tasks := e.task lc .void
        counts := [.balk lc.k l.estimated] } := by
  have hover : e.admissionOver lc.elapsed = true := by simpa [Entry.admissionOver] using hpassed
  simp [settleHead, hcur, hover]

/-! ## The pass timeout -/

theorem timeoutOver_iff {e : Entry} {rest : List Entry} (hlist : l.inflight = e :: rest) :
    timeoutOver lc l = true ↔
      (∃ r, e.release = some r ∧ r.mark + r.timeout ≤ lc.elapsed) ∨
        (e.release = none ∧ l.current = .attended ∧ e.admissionMark + e.admissionTimeout ≤ lc.elapsed) := by
  unfold timeoutOver
  cases he : e.release <;> simp [hlist, he, Entry.admissionOver]

theorem exec_passTimeout_of_ended {k : LaneId} {e : Entry} {rest : List Entry} {o : LaneOut}
    (hlist : (s.lane k).inflight = e :: rest) (hover : timeoutOver (s.laneCtx k) (s.lane k) = true)
    (ho : settleHead (s.laneCtx k) (s.lane k) rest = o) :
    exec (.passTimeout k) s =
      .next
        (s.applyLane k
          { o with
            tasks := e.task (s.laneCtx k) .void ++ o.tasks
            counts := .balk k (s.lane k).estimated :: o.counts }) := by
  subst ho
  change Host.Outcome.next (s.applyLane k (timeoutEvent _ _)) = _
  rw [timeoutEvent, if_pos hover, balkHead, hlist]
  rfl

/-! ## The release pulse and the rotation window -/

theorem pulseEnd_of_due {mode : ReleaseMode} {e : Entry} {rest : List Entry} {r : Release} (hlist : l.inflight = e :: rest)
    (hr : e.release = some r) (hmode : mode = .timed) (hcur : l.current = .self ∨ l.current = .attended)
    (hdue : r.mark + r.pulse ≤ lc.elapsed) : pulseEnd lc mode l = { l with output := false } := by
  simp only [pulseEnd, hlist, hr, hmode, hcur, hdue, and_self, if_true]

theorem pulseEnd_of_not_due {mode : ReleaseMode}
    (h : mode = .held ∨ ∀ e r, l.inflight.head? = some e → e.release = some r → lc.elapsed < r.mark + r.pulse) :
    pulseEnd lc mode l = l := by
  unfold pulseEnd
  split
  · rfl
  · rename_i e rest hlist
    split
    · rfl
    · rename_i r hr
      refine if_neg fun hdue => ?_
      obtain ⟨hmode, -, hmark⟩ := hdue
      obtain hheld | hwait := h
      · simp [hheld] at hmode
      · exact Nat.not_lt.mpr hmark (hwait e r (by rw [hlist]; rfl) hr)

theorem endWindow_of_open {m : Nat} (hseq : l.sequencer = .aSeen m ∨ l.sequencer = .bSeen m) :
    endWindow lc l = if m + 3000 ≤ lc.elapsed then { l with sequencer := .idle } else l := by
  rcases hseq with hseq | hseq <;> (simp only [endWindow, hseq]; rfl)

/-- Settles O42, duration by duration. -/
theorem laneDurationsEnd : Obligations.LaneDurationsEnd := by
  constructor
  · intro s k l c balk ended
    have hover {e : Entry} {rest : List Entry} (hlist : l.inflight = e :: rest) (he : ended e) : timeoutOver c l = true :=
      (timeoutOver_iff hlist).mpr he
    refine ⟨fun e hlist he => ?_, fun e f hlist he hcur => ?_, fun e f hlist he hcur hwait => ?_,
      fun e f hlist he hcur hpassed => ?_, fun hnone => ?_, fun e r hhead hr hmode hcur hdue => ?_, fun hnot => ?_,
      fun m hseq => ⟨fun hdue => ?_, fun hnot => ?_⟩, fun hidle => ?_⟩
    · rw [exec_passTimeout_of_ended hlist (hover hlist he) settleHead_nil]
      simp only [List.append_nil]
      rfl
    · rw [exec_passTimeout_of_ended hlist (hover hlist he) (settleHead_self hcur f [])]
      simp only [List.append_nil]
      rfl
    · rw [exec_passTimeout_of_ended hlist (hover hlist he) (settleHead_waiting hcur [] hwait)]
      simp only [List.append_nil]
      rfl
    · rw [exec_passTimeout_of_ended hlist (hover hlist he) (settleHead_passed hcur hpassed)]
      rfl
    · change Host.Outcome.next (s.applyLane k (timeoutEvent c l)) = _
      have hnot : ¬ timeoutOver c l = true := by
        cases hlist : l.inflight with
        | nil => simp [timeoutOver, hlist]
        | cons e rest =>
          rw [timeoutOver_iff hlist]
          exact hnone e (by rw [hlist]; rfl)
      rw [timeoutEvent, if_neg hnot, applyLane_lane_only, setLane_lane_self]
    · obtain ⟨rest, hlist⟩ := List.head?_eq_some_iff.mp hhead
      exact congrArg (fun m => Host.Outcome.next (s.setLane k m)) (pulseEnd_of_due hlist hr hmode hcur hdue)
    · have hsame : pulseEnd c s.profile.modeOf[k.val] l = l := pulseEnd_of_not_due hnot
      change Host.Outcome.next (s.setLane k (pulseEnd c s.profile.modeOf[k.val] l)) = _
      rw [hsame, setLane_lane_self]
    · change Host.Outcome.next (s.setLane k (endWindow c l)) = _
      rw [endWindow_of_open hseq, if_pos (show m + 3000 ≤ c.elapsed from hdue)]
    · change Host.Outcome.next (s.setLane k (endWindow c l)) = _
      rw [endWindow_of_open hseq, if_neg (show ¬ m + 3000 ≤ c.elapsed from Nat.not_le.mpr hnot), setLane_lane_self]
    · change Host.Outcome.next (s.setLane k (endWindow c l)) = _
      simp only [endWindow, hidle, l, setLane_lane_self]
  · intro s k x l n
    refine ⟨fun m hstuck hdue => ?_, fun m hstuck => exec_stuckLimit_of_nothing ?_, fun hstuck => exec_stuckLimit_of_nothing ?_⟩
    · have hevent : exec (.stuckLimit k x) s = .next (s.applyLane k (stuckEvent (s.laneCtx k) l x)) := rfl
      rw [stuckEvent_of_due hstuck hdue] at hevent
      have hsame (v : Sensor) : (l.setSensor x v).score = l.score ∧ (l.setSensor x v).errorFlag = l.errorFlag ∧
          (l.setSensor x v).firstCause = l.firstCause ∧ (l.setSensor x v).current = l.current ∧
          (l.setSensor x v).output = l.output := by cases x <;> exact ⟨rfl, rfl, rfl, rfl, rfl⟩
      obtain ⟨hscore, hflag, hfirst, hcur, hout⟩ := hsame { l.sensor x with stuck := some { mark := m, counted := true } }
      obtain ⟨hin, hsuspect, hfailed⟩ := raiseScore_cases_of (s.laneCtx k) 32 hscore hflag hfirst hcur hout
      refine ⟨fun hband => ?_, fun hband hlow => ?_, fun hband hhigh => ?_⟩
      · rw [hevent, hin hband, applyLane_lane_only]
      · rw [hevent, hsuspect hband hlow]
        rfl
      · rw [hevent, hfailed hband hhigh]
        rfl
    · unfold stuckEvent
      obtain hstuck | ⟨hstuck, hwait⟩ := hstuck
      · simp [show ((s.lane k).sensor x).stuck = _ from hstuck]
      · have hwait' : ¬ m + Config.stuckLimit ≤ (s.laneCtx k).elapsed := Nat.not_le.mpr hwait
        simp [show ((s.lane k).sensor x).stuck = _ from hstuck, hwait']
    · simp [stuckEvent, show ((s.lane k).sensor x).stuck = _ from hstuck]

/-! ## Edges -/

/-- The sequencer that waits for the second edge after one of sensor `x` (R74). -/
def Sequencer.seen (x : ArmSensor) (m : Nat) : Sequencer :=
  match x with
  | .a => .aSeen m
  | .b => .bSeen m

theorem windowOver_seen (y : ArmSensor) (m elapsed : Nat) :
    windowOver (.seen y m) elapsed = if m + 3000 < elapsed then .idle else .seen y m := by
  cases y <;> rfl

/-- In IDLE, or after the window, a rising edge starts a window (R74, log entry 10, DEDUCED). -/
theorem sequence_of_idle {q : Sequencer} {elapsed : Nat} (x : ArmSensor) (h : windowOver q elapsed = .idle) :
    sequence q x elapsed = (.seen x elapsed, .moved) := by
  cases x <;> simp [sequence, h, Sequencer.seen]

theorem sequence_again {m elapsed : Nat} (x : ArmSensor) (h : elapsed ≤ m + 3000) :
    sequence (.seen x m) x elapsed = (.seen x elapsed, .implausible) := by
  have hopen := (windowOver_seen x m elapsed).trans (if_neg (Nat.not_lt.mpr h))
  unfold sequence
  rw [hopen]
  cases x <;> rfl

theorem sequence_coincident {x y : ArmSensor} {m elapsed : Nat} (hne : y ≠ x) (h : elapsed < m + 20) :
    sequence (.seen y m) x elapsed = (.idle, .implausible) := by
  have hopen := (windowOver_seen y m elapsed).trans (if_neg (Nat.not_lt.mpr (h.le.trans (by omega))))
  have hnear : elapsed < m + Config.coincidence := h
  unfold sequence
  rw [hopen]
  cases y with
  | a =>
    cases x with
    | a => exact absurd rfl hne
    | b => simp [Sequencer.seen, hnear]
  | b =>
    cases x with
    | a => simp [Sequencer.seen, hnear]
    | b => exact absurd rfl hne

theorem sequence_forward {m elapsed : Nat} (hlo : m + 20 ≤ elapsed) (hhi : elapsed ≤ m + 3000) :
    sequence (.aSeen m) .b elapsed = (.idle, .forward) := by
  have hopen : windowOver (.aSeen m) elapsed = .aSeen m := if_neg (Nat.not_lt.mpr hhi)
  have hplausible : ¬ elapsed < m + Config.coincidence := Nat.not_lt.mpr hlo
  simp only [sequence, hopen, if_neg hplausible]

/-- A lane that takes no edges shows the level (R73). -/
theorem exec_edges_of_not_taken {k : LaneId} (x : ArmSensor) (h : s.takesEdges k = false) :
    exec (.sensorRisingEdge k x) s = .next (s.setLane k ((s.lane k).setLevel x true)) ∧
      exec (.sensorFallingEdge k x) s = .next (s.setLane k ((s.lane k).setLevel x false)) := by
  have hnot : ¬ s.takesEdges k = true := by simp [h]
  exact ⟨congrArg Host.Outcome.next (if_neg hnot), congrArg Host.Outcome.next (if_neg hnot)⟩

/-- A rise of the score changes the score, the error indication, the state and the output of the lane, and sends no task and no
count event (R60, R80). -/
theorem raiseScore_frame (lc : LaneCtx) (l : Lane) (delta : Nat) :
    (raiseScore lc l delta).lane.score = min 255 (l.score + delta) ∧
      (raiseScore lc l delta).lane.sequencer = l.sequencer ∧ (∀ x, (raiseScore lc l delta).lane.sensor x = l.sensor x) ∧
      (raiseScore lc l delta).lane.inflight = l.inflight ∧ (raiseScore lc l delta).tasks = [] ∧
      (raiseScore lc l delta).counts = [] := by
  refine ⟨?_, ?_, fun x => ?_, setScore_inflight _, setScore_tasks _, ?_⟩
  · obtain h | h := setScore_lane (lc := lc) (l := l) (min 255 (l.score + delta)) <;>
      exact (congrArg Lane.score h :)
  · obtain h | h := setScore_lane (lc := lc) (l := l) (min 255 (l.score + delta)) <;>
      exact (congrArg Lane.sequencer h :)
  · obtain h | h := setScore_lane (lc := lc) (l := l) (min 255 (l.score + delta)) <;>
      (refine (congrArg (fun m => Lane.sensor m x) h).trans ?_; cases x <;> rfl)
  · unfold raiseScore setScore
    dsimp only
    split_ifs
    · rfl
    · exact causeEvent_counts ..
    · rfl

/-- The lane as a rising edge leaves it before the score and the pairing, for a given outcome of the sequencer. -/
theorem edgeLane_eq {x : ArmSensor} {q : Sequencer} {r : EdgeResult} (h : sequence l.sequencer x lc.elapsed = (q, r)) :
    edgeLane lc l x =
      { l.setSensor x
          { level := true, lastRise := lc.time, lastFall := (l.sensor x).lastFall
            stuck := some { mark := lc.elapsed, counted := false } } with
        sequencer := q } := by
  simp only [edgeLane, h]

theorem risingEdge_moved {x : ArmSensor} {q : Sequencer} (h : sequence l.sequencer x lc.elapsed = (q, .moved)) :
    risingEdge lc l x = { lane := edgeLane lc l x } := by
  simp only [risingEdge, h, edgeLane]

theorem risingEdge_implausible {x : ArmSensor} {q : Sequencer} (h : sequence l.sequencer x lc.elapsed = (q, .implausible)) :
    risingEdge lc l x = raiseScore lc (edgeLane lc l x) 8 := by
  simp only [risingEdge, h, edgeLane]
  rfl

theorem risingEdge_forward {x : ArmSensor} {q : Sequencer} (h : sequence l.sequencer x lc.elapsed = (q, .forward)) :
    risingEdge lc l x = (lowerScore lc (edgeLane lc l x)).andThen (pairForward lc) := by
  simp only [risingEdge, h, edgeLane]

/-- Settles O43, by what the sequencer makes of the edge. -/
theorem edgesDriveTheSequencer : Obligations.EdgesDriveTheSequencer := by
  intro s k x y l seen up down
  have hseen (z : ArmSensor) (m : Nat) : seen z m = .seen z m := by cases z <;> rfl
  refine ⟨fun hedges => ⟨congrArg Host.Outcome.next (if_pos hedges), fun hidle => ?_, fun m q hcase => ?_⟩,
    fun hnot => exec_edges_of_not_taken x hnot⟩
  · have hover : windowOver l.sequencer s.elapsed = .idle := by
      obtain hidle | ⟨m, hseq, hlate⟩ := hidle
      · rw [hidle]; rfl
      · rw [hseq, hseen, windowOver_seen, if_pos hlate]
    have hsequence : sequence (s.lane k).sequencer x (s.laneCtx k).elapsed = _ := sequence_of_idle x hover
    rw [exec_sensorRisingEdge_of_takesEdges x hedges, risingEdge_moved hsequence, applyLane_lane_only, edgeLane_eq hsequence,
      hseen]
    rfl
  · have hsequence : sequence (s.lane k).sequencer x (s.laneCtx k).elapsed = (q, .implausible) := by
      change sequence l.sequencer x s.elapsed = _
      obtain ⟨hseq, hopen, rfl⟩ | ⟨hne, hseq, hnear, rfl⟩ := hcase
      · rw [hseq, hseen, hseen, sequence_again x hopen]
      · rw [hseq, hseen, sequence_coincident hne hnear]
    have hexec : exec (.sensorRisingEdge k x) s =
        .next (s.applyLane k (raiseScore (s.laneCtx k) { up with sequencer := q } 8)) := by
      rw [exec_sensorRisingEdge_of_takesEdges x hedges, risingEdge_implausible hsequence, edgeLane_eq hsequence]
      rfl
    refine ⟨_, hexec, ?_⟩
    have hup (v : Sensor) : (l.setSensor x v).score = l.score ∧ (l.setSensor x v).errorFlag = l.errorFlag ∧
        (l.setSensor x v).firstCause = l.firstCause ∧ (l.setSensor x v).current = l.current ∧
        (l.setSensor x v).output = l.output ∧ (l.setSensor x v).inflight = l.inflight := by
      cases x <;> exact ⟨rfl, rfl, rfl, rfl, rfl, rfl⟩
    obtain ⟨hscore, hflag, hfirst, hcur, hout, hlist⟩ := hup
      { level := true, lastRise := s.timebase.time, lastFall := (l.sensor x).lastFall
        stuck := some { mark := s.elapsed, counted := false } }
    obtain ⟨hscore', hseq', hsensor', hlist', htasks', hcounts'⟩ := raiseScore_frame (s.laneCtx k) { up with sequencer := q } 8
    obtain ⟨hin, hsuspect, hfailed⟩ :=
      raiseScore_cases_of (l := l) (s.laneCtx k) 8 (m := { up with sequencer := q }) hscore hflag hfirst hcur hout
    rw [applyLane_lane, if_pos rfl, hlist', applyLane_countsInFlight, hcounts', applyLane_engine, htasks', List.append_nil,
      List.append_nil]
    refine ⟨hscore'.trans (by rw [hscore]), hseq', (hsensor' x).trans (by cases x <;> rfl), hlist, rfl, rfl, fun hband => ?_,
      fun hband hlow => ?_, fun hband hhigh => ?_⟩
    · rw [hin hband, applyLane_lane_only]
    · rw [hsuspect hband hlow]
      rfl
    · rw [hfailed hband hhigh]
      rfl

/-! ## Forward rotations -/

theorem completeHead_eq {e : Entry} {rest : List Entry} {o : LaneOut} (hlist : l.inflight = e :: rest)
    (ho : settleHead lc l rest = o) :
    completeHead lc l =
      { o with
        tasks := e.task lc .confirm ++ o.tasks
        counts := e.passedEvent lc.k l.estimated :: o.counts } := by
  subst ho
  simp [completeHead, hlist]

theorem pairForward_of_released {e : Entry} {rest : List Entry} (hstate : l.current = .self ∨ l.current = .attended)
    (hlist : l.inflight = e :: rest) (he : e.release ≠ none) : pairForward lc l = completeHead lc l := by
  have hreleased : e.released = true := Option.isSome_iff_ne_none.mpr he
  rcases hstate with hcur | hcur <;> simp [pairForward, hcur, hlist, hreleased]

theorem pairForward_observe (hcur : l.current = .observe) :
    pairForward lc l = { lane := l, counts := [.passed lc.k l.estimated] } := if_pos hcur

theorem pairForward_tailgate
    (h : l.current = .shut ∨ ((l.current = .self ∨ l.current = .attended) ∧ l.headReleased = false)) :
    pairForward lc l =
      { lane := l, counts := [.tailgate lc.k l.estimated], posts := [.tailgate lc.k lc.time] } := by
  unfold Lane.headReleased at h
  obtain hcur | ⟨hcur, hhead⟩ := h
  · simp [pairForward, hcur, pairForward.tailgateAt]
  · cases hlist : l.inflight with
    | nil => rcases hcur with hcur | hcur <;> simp [pairForward, hcur, hlist, pairForward.tailgateAt]
    | cons e rest =>
      have he : e.released = false := by simpa [hlist] using hhead
      rcases hcur with hcur | hcur <;> simp [pairForward, hcur, hlist, he, pairForward.tailgateAt]

/-- Settles O44, by the state of the lane and what stands in its list. -/
theorem forwardRotationsArePaired : Obligations.ForwardRotationsArePaired := by
  intro s k m hedges hseq hlo hhi l c n est health l1 result passed
  have hsequence : sequence (s.lane k).sequencer .b (s.laneCtx k).elapsed = (.idle, .forward) := by
    rw [hseq]
    exact sequence_forward hlo hhi
  have hresult {o o' : LaneOut} (ho : pairForward c l1 = o)
      (ho' : { lane := o.lane, tasks := o.tasks, counts := o.counts, posts := health ++ o.posts } = o') : result o' := by
    subst ho ho'
    change exec (.sensorRisingEdge k .b) s = _
    rw [exec_sensorRisingEdge_of_takesEdges .b hedges, risingEdge_forward hsequence, edgeLane_eq hsequence, lowerScore_eq]
    rfl
  have hpassed (e : Entry) : [e.passedEvent k est] = passed e := by
    simp only [Entry.passedEvent, passed]
    cases e.kind <;> rfl
  refine ⟨fun e rest hstate hlist he => ?_, fun hcur => ?_, fun h => hresult (pairForward_tailgate (l := l1) h) rfl⟩
  · have hcomplete {o o' : LaneOut} (ho : settleHead c l1 rest = o)
        (ho' : { lane := o.lane, tasks := e.task c .confirm ++ o.tasks, counts := passed e ++ o.counts
                 posts := health ++ o.posts } = o') : result o' := by
      refine hresult ((pairForward_of_released (l := l1) hstate hlist he).trans (completeHead_eq (l := l1) hlist ho)) ?_
      rw [← ho', ← hpassed e]
      rfl
    refine ⟨fun hrest => ?_, fun f hrest hcur => ?_, fun f hrest hcur hwait => ?_, fun f hrest hcur hover => ?_⟩ <;> subst hrest
    · refine hcomplete settleHead_nil ?_
      have hout : (l1.current == .observe) = false := by rcases hstate with hcur | hcur <;> simp [l1, hcur]
      simp only [List.append_nil, hout]
    · refine hcomplete (settleHead_self (l := l1) hcur f []) ?_
      simp only [List.append_nil]
      rfl
    · refine hcomplete (settleHead_waiting (l := l1) hcur [] hwait) ?_
      simp only [List.append_nil]
    · refine hcomplete (settleHead_passed (l := l1) hcur hover) ?_
      simp only [List.append_nil]
      rfl
  · refine hresult (pairForward_observe (l := l1) hcur) ?_
    simp only [List.append_nil]
    rfl

end Sys2Proof.Machine
end

section
/-! PROOF. The calendar of operating days and aligned boundaries, and what the count unit makes of a count event and of a closing
(R85 to R92, R150). -/

namespace Sys2Proof.Machine

variable {s t : State}

/-! ## Aligned boundaries -/

/-- An instant is aligned when it leaves the rest of the season's first boundary (R87). -/
theorem aligned_iff (interval rollover b : Nat) :
    ((b : Int) - rollover * 60000) % (interval * 60000) = 0 ↔ b % (interval * 60000) = firstBoundary interval rollover := by
  have hcast : ((b : Int) - rollover * 60000) % (interval * 60000) = 0 ↔
      (b : Int) % ((interval * 60000 : Nat) : Int) = ((rollover * 60000 : Nat) : Int) % ((interval * 60000 : Nat) : Int) := by
    rw [Int.emod_eq_emod_iff_emod_sub_eq_zero]
    push_cast
    rfl
  rw [hcast, firstBoundary]
  norm_cast

/-- An aligned instant is the first boundary and whole interval lengths (R87). -/
theorem aligned_eq {interval rollover b : Nat} (h : b % (interval * 60000) = firstBoundary interval rollover) :
    b = firstBoundary interval rollover + b / (interval * 60000) * (interval * 60000) := by
  rw [← h, Nat.mul_comm (b / _)]
  exact (Nat.mod_add_div b _).symm

theorem boundaryAtOrBefore_of_lt {interval rollover x : Nat} (h : x < firstBoundary interval rollover) :
    boundaryAtOrBefore interval rollover x = 0 := if_pos h

theorem boundaryAtOrBefore_of_le {interval rollover x : Nat} (h : firstBoundary interval rollover ≤ x) :
    boundaryAtOrBefore interval rollover x =
      firstBoundary interval rollover + (x - firstBoundary interval rollover) / (interval * 60000) * (interval * 60000) :=
  if_neg (Nat.not_lt.mpr h)

theorem boundaryAfter_of_lt {interval rollover x : Nat} (h : x < firstBoundary interval rollover) :
    boundaryAfter interval rollover x = firstBoundary interval rollover := if_pos h

theorem boundaryAfter_of_le {interval rollover x : Nat} (h : firstBoundary interval rollover ≤ x) :
    boundaryAfter interval rollover x =
      firstBoundary interval rollover +
        ((x - firstBoundary interval rollover) / (interval * 60000) + 1) * (interval * 60000) :=
  if_neg (Nat.not_lt.mpr h)

/-- The first boundary and whole interval lengths is aligned. -/
theorem aligned_add_mul (interval rollover q : Nat) :
    (firstBoundary interval rollover + q * (interval * 60000)) % (interval * 60000) = firstBoundary interval rollover := by
  rw [Nat.add_mul_mod_self_right, firstBoundary]
  exact Nat.mod_mod _ _

theorem boundaryAtOrBefore_spec {interval rollover x b : Nat} (hlen : 1 ≤ interval)
    (hb : b % (interval * 60000) = firstBoundary interval rollover) (hx : b ≤ x) :
    boundaryAtOrBefore interval rollover x % (interval * 60000) = firstBoundary interval rollover ∧
      boundaryAtOrBefore interval rollover x ≤ x ∧ b ≤ boundaryAtOrBefore interval rollover x := by
  have hpos : 0 < interval * 60000 := by omega
  have hle : firstBoundary interval rollover ≤ x := by
    rw [← hb]
    exact (Nat.mod_le _ _).trans hx
  rw [boundaryAtOrBefore_of_le hle]
  have hdiv := Nat.div_mul_le_self (x - firstBoundary interval rollover) (interval * 60000)
  refine ⟨aligned_add_mul .., by omega, ?_⟩
  have hbq := aligned_eq hb
  have hq : b / (interval * 60000) ≤ (x - firstBoundary interval rollover) / (interval * 60000) := by
    rw [Nat.le_div_iff_mul_le hpos]
    omega
  rw [hbq]
  exact Nat.add_le_add_left (Nat.mul_le_mul_right _ hq) _

theorem boundaryAfter_spec {interval rollover x : Nat} (hlen : 1 ≤ interval) :
    boundaryAfter interval rollover x % (interval * 60000) = firstBoundary interval rollover ∧
      x < boundaryAfter interval rollover x ∧
      ∀ b, b % (interval * 60000) = firstBoundary interval rollover → x < b → boundaryAfter interval rollover x ≤ b := by
  have hpos : 0 < interval * 60000 := by omega
  by_cases hx : x < firstBoundary interval rollover
  · rw [boundaryAfter_of_lt hx]
    refine ⟨by simpa using aligned_add_mul interval rollover 0, hx, fun b hb _ => ?_⟩
    rw [← hb]
    exact Nat.mod_le _ _
  · rw [Nat.not_lt] at hx
    rw [boundaryAfter_of_le hx]
    refine ⟨aligned_add_mul .., ?_, fun b hb hlt => ?_⟩
    · have hdiv := Nat.lt_div_mul_add hpos (a := x - firstBoundary interval rollover)
      rw [Nat.add_mul, Nat.one_mul]
      omega
    · have hbq := aligned_eq hb
      have hq : (x - firstBoundary interval rollover) / (interval * 60000) < b / (interval * 60000) := by
        rw [Nat.div_lt_iff_lt_mul hpos]
        omega
      rw [hbq]
      exact Nat.add_le_add_left (Nat.mul_le_mul_right _ hq) _

theorem operatingDay_bounds {rollover x : Nat} (hlo : rollover * 60000 ≤ x) (hhi : x < rollover * 60000 + 1024 * 86400000) :
    rollover * 60000 + operatingDay rollover x * 86400000 ≤ x ∧
      x < rollover * 60000 + (operatingDay rollover x + 1) * 86400000 := by
  have hday : operatingDay rollover x = (x - rollover * 60000) / 86400000 := by
    unfold operatingDay Config.minuteMs Config.dayMs Config.dayMax
    rw [if_neg (Nat.not_lt.mpr hlo)]
    omega
  rw [hday]
  omega

/-- Settles O50: the day, the minute and the aligned boundaries, each characterised by division with remainder. -/
theorem calendarFollowsStationTime : Obligations.CalendarFollowsStationTime := by
  refine ⟨fun rollover x => ⟨fun h => if_pos h, operatingDay_le _ _, operatingDay_bounds, fun h => ?_⟩, fun x => ?_, fun s => ⟨fun h => ?_, fun h => ?_⟩,
    fun interval rollover x hlen => ⟨?_, fun hnone => ?_, ?_⟩⟩
  · change (if x < rollover * 60000 then 0 else min 1023 ((x - rollover * 60000) / 86400000)) = 1023
    rw [if_neg (by omega)]
    omega
  · unfold minuteOfDay Config.dayMs Config.minuteMs
    omega
  · simp only [State.opDay, h]
  · unfold State.opDay
    cases hstatus : s.timebase.status
    · exact absurd hstatus h
    · rfl
    · rfl
  · simp only [aligned_iff]
    rintro ⟨b, hb, hx⟩
    obtain ⟨haligned, hle, -⟩ := boundaryAtOrBefore_spec hlen hb hx
    exact ⟨haligned, hle, fun b' hb' hx' => (boundaryAtOrBefore_spec hlen hb' hx').2.2⟩
  · simp only [aligned_iff] at hnone
    refine boundaryAtOrBefore_of_lt (hnone _ ?_)
    simpa using aligned_add_mul interval rollover 0
  · simp only [aligned_iff]
    exact boundaryAfter_spec hlen

/-! ## Closings -/

/-- An interval that opens at an aligned instant or at the substitute 0 has its next boundary as the closing gives it (R87). -/
theorem fresh_eq_opened {interval rollover start : Nat} (h : start = 0 ∨ start % (interval * 60000) = firstBoundary interval rollover) :
    Interval.fresh start (nextBoundaryFrom interval rollover start) = Interval.opened interval rollover start := by
  have hnext : nextBoundaryFrom interval rollover start = (Interval.opened interval rollover start).nextBoundary := by
    unfold nextBoundaryFrom Interval.opened
    simp only [aligned_iff]
    by_cases haligned : start % (interval * 60000) = firstBoundary interval rollover
    · have hnot : ¬ (start = 0 ∧ firstBoundary interval rollover ≠ 0) := by
        rintro ⟨rfl, hne⟩
        exact hne (by rw [← haligned, Nat.zero_mod])
      rw [if_neg hnot, if_pos haligned]
      rfl
    · have hzero : start = 0 := h.resolve_right haligned
      have hne : firstBoundary interval rollover ≠ 0 := fun h0 => haligned (by rw [hzero, h0, Nat.zero_mod])
      rw [if_pos ⟨hzero, hne⟩, if_neg haligned]
  rw [hnext]
  rfl

theorem boundaryAtOrBefore_aligned (interval rollover x : Nat) :
    boundaryAtOrBefore interval rollover x = 0 ∨
      boundaryAtOrBefore interval rollover x % (interval * 60000) = firstBoundary interval rollover := by
  by_cases hx : x < firstBoundary interval rollover
  · exact .inl (boundaryAtOrBefore_of_lt hx)
  · rw [boundaryAtOrBefore_of_le (Nat.le_of_not_lt hx)]
    exact .inr (aligned_add_mul ..)

theorem union_ofHeld (a : IntervalFlags) : a.union IntervalFlags.ofHeld = { a with extended := true } := by
  simp [IntervalFlags.union, IntervalFlags.ofHeld]

theorem union_empty (a : IntervalFlags) : a.union {} = a := by simp [IntervalFlags.union]

/-- A closing that opens a new interval at the boundary at or before an instant, held on a full log at that instant (R88, R91). -/
theorem closeInterval_eq (s : State) (stop : Nat) (flag : IntervalFlags) (x : Nat) :
    closeInterval s stop flag (boundaryAtOrBefore s.profile.intervalMinutes s.profile.rollover x) x =
      { s with
        count :=
          if s.count.log.length < 96 then
            s.count.closedAt s.profile stop (boundaryAtOrBefore s.profile.intervalMinutes s.profile.rollover x) flag
          else s.count.heldAt s.profile x flag
        postsInFlight := s.postsInFlight ++ [s.count.closingPost flag] } := by
  have hfresh := fresh_eq_opened (boundaryAtOrBefore_aligned s.profile.intervalMinutes s.profile.rollover x)
  unfold CountUnit.closingPost
  by_cases hroom : s.count.log.length < 96
  · have hroom' : s.count.log.length < Config.logMax := hroom
    simp only [closeInterval, hroom, hroom', if_true, hfresh]
    rfl
  · have hroom' : ¬ s.count.log.length < Config.logMax := hroom
    simp only [closeInterval, hroom, hroom', if_false, union_ofHeld]
    rfl

/-- Settles O48: each count event, the passed and the free event of a completion, and the boundary with and without room. -/
theorem intervalsCountAndClose : Obligations.IntervalsCountAndClose := by
  refine ⟨?_, ?_⟩
  · intro s u after put
    have hafter (ev : CountEvent) {v : CountUnit} (hv : u.take ev = v) : after ev v := by
      subst hv
      exact ⟨fun hmem => congrArg Host.Outcome.next (if_pos hmem), fun hmem => congrArg Host.Outcome.next (if_neg hmem)⟩
    exact ⟨fun k est => ⟨hafter _ rfl, hafter _ rfl, hafter _ rfl, hafter _ rfl, hafter _ rfl, hafter _ rfl⟩,
      fun amount => hafter _ rfl⟩
  · intro s u f b
    have hexec : exec .boundaryEvent s = .next (if b ≤ s.timebase.time then closeAtBoundary s else s) := rfl
    refine ⟨fun hearly => ?_, fun hdue hroom hb => ?_, fun hdue hfull => ?_⟩
    · rw [hexec, if_neg (Nat.not_le.mpr hearly)]
    · have hroom' : s.count.log.length < Config.logMax := hroom
      have hb' : ¬ (b = 0 ∧ firstBoundary f.intervalMinutes f.rollover ≠ 0) := fun h => hb.ne' h.1
      rw [hexec, if_pos hdue]
      simp only [closeAtBoundary, closeInterval, hroom', if_true, nextBoundaryFrom, Interval.close, union_empty]
      rw [if_neg hb']
      rfl
    · have hfull' : ¬ s.count.log.length < Config.logMax := Nat.not_lt.mpr hfull
      rw [hexec, if_pos hdue]
      simp only [closeAtBoundary, closeInterval, hfull', if_false, union_empty, union_ofHeld]
      rfl

end Sys2Proof.Machine
end

section
/-! PROOF. References that slew, set or step station time, the running of time, and the timebase's own events (R140 to R152). -/

namespace Sys2Proof.Machine

variable {s t : State}

/-! ## A reference at an open port -/

theorem setPort_closeStepped (s : State) (p : Port) (ps : PortState) (before after : Nat) :
    closeStepped (s.setPort p ps) before after = (closeStepped s before after).setPort p ps := by
  rw [closeStepped, closeStepped, setPort_profile, setPort_closeInterval]

theorem setPort_applyReference (s : State) (p : Port) (ps : PortState) (tRef : Nat) (e : Int) (cse : ReferenceCase) :
    applyReference (s.setPort p ps) tRef e cse = (applyReference s tRef e cse).setPort p ps := by
  have htimebase (u : State) (b : Timebase) : ({ u.setPort p ps with timebase := b, elapsed := u.elapsed } : State) =
      ({ u with timebase := b } : State).setPort p ps := by cases p <;> rfl
  have hpost (u : State) (d : NoticeDetail) : (u.setPort p ps).post d = (u.post d).setPort p ps := by cases p <;> rfl
  cases cse with
  | refused => rfl
  | slew =>
    simp only [applyReference, slewReference, setPort_timebase, setPort_elapsed, htimebase, hpost]
    split <;> rfl
  | set =>
    simp only [applyReference, setReference, setPort_timebase, setPort_elapsed, htimebase, hpost, setPort_closeStepped,
      setPort_settleDay]
  | step =>
    simp only [applyReference, stepReference, setPort_timebase, setPort_elapsed, htimebase, hpost, setPort_closeStepped, setPort_settleDay]
  | forced =>
    simp only [applyReference, stepReference, setPort_timebase, setPort_elapsed, htimebase, hpost, setPort_closeStepped, setPort_settleDay]

theorem exec_timeReference_answered {i : StationId} (tag : Byte) {tRef : Nat} (force : Bool) (hopen : Open s (.station i))
    (href : tRef < 2 ^ 40) {cse : ReferenceCase}
    (hcase : referenceCase s.timebase.status ((tRef : Int) - s.timebase.time) force = cse) {u : State}
    (hu : applyReference s tRef ((tRef : Int) - s.timebase.time) cse = u) :
    exec (.timeReference (.station i) tag (beBytes 5 tRef ++ boolByte force)) s =
      .next
        (u.answered (.station i) 0x58 tag (if cse = .refused then .timeBackward else .ok)
          (referenceBytes (caseCode cse) ((tRef : Int) - s.timebase.time) u)) := by
  subst hcase hu
  refine congrArg Host.Outcome.next (requestUnit_answered tag hopen rfl ?_ fun ps => ?_)
  · rw [applyReference_frame]
    rfl
  · simp only [serveReference, referenceBody_eq href, setPort_timebase, setPort_applyReference, referenceBytes_setPort]

/-- What a TIME REFERENCE reports of a timebase that it has made LOCKED (R148, R150). -/
theorem referenceBytes_of_locked (cse : Nat) (e : Int) (h : s.timebase.status = .locked) :
    referenceBytes cse e s =
      beBytes 1 cse ++ beSigned 6 e ++ beBytes 5 s.timebase.time ++ beBytes 1 1 ++ beSigned 2 s.timebase.trim ++
        beSigned 2 s.timebase.correction ++ beBytes 2 s.opDay := by
  rw [referenceBytes, h]
  rfl

theorem opDay_of_locked (h : s.timebase.status = .locked) : s.opDay = operatingDay s.profile.rollover s.timebase.time := by
  simp only [State.opDay, h]
  rfl

/-! ## Slewing -/

theorem slewReference_eq (s : State) (e : Int) :
    slewReference s e =
      { s with
        timebase := ({ s.timebase with trim := tunedTrim s.timebase e }.slewBy e s.elapsed).accept
        postsInFlight := s.postsInFlight ++ (if s.timebase.status = .free then [.timebase .locked false] else []) } := by
  unfold slewReference
  dsimp only
  split
  · rfl
  · simp only [List.append_nil]

theorem tunedTrim_of_long {b : Timebase} {mark : Nat} (e : Int) (hmark : b.refMark = some mark) (hspan : mark + 600000 ≤ b.time) :
    tunedTrim b e = max (-250) (min 250 (b.trim + (e * 1000000).tdiv (2 * ((b.time : Int) - mark)))) := by
  have hlong : (Config.trimSpan : Int) ≤ (b.time : Int) - mark := by
    simp only [Config.trimSpan]
    omega
  simp only [tunedTrim, hmark, if_pos hlong, clampTrim, Config.trimMax, Int.mul_comm]

theorem tunedTrim_of_short {b : Timebase} (e : Int) (h : ∀ mark, b.refMark = some mark → b.time < mark + 600000) :
    tunedTrim b e = b.trim := by
  unfold tunedTrim
  split
  · rfl
  · rename_i mark hmark
    have hshort := h mark hmark
    exact if_neg (by simp only [Config.trimSpan]; omega)

/-! ## A step of station time -/

/-- The day comparison of a timebase that is not UNSET (R104, R151). -/
theorem settleDay_eq (hstatus : s.timebase.status ≠ .unset) :
    settleDay s =
      { s with
        timebase := { s.timebase with currentDay := s.derivedDay }
        refund := { s.refund with locked := s.refund.locked && s.timebase.currentDay == s.derivedDay }
        postsInFlight :=
          s.postsInFlight ++ (if s.timebase.currentDay = s.derivedDay then [] else [.dayRollover s.derivedDay]) } := by
  by_cases hday : s.timebase.currentDay = s.derivedDay
  · have hnot : s.dayDue = false := by simp [State.dayDue, hday]
    simp only [settleDay, hnot, ← hday, beq_self_eq_true, Bool.and_true, if_true, List.append_nil]
    rfl
  · have hdue : s.dayDue = true := by simp [State.dayDue, hstatus, Ne.symm hday]
    have hbeq : (s.timebase.currentDay == s.derivedDay) = false := beq_eq_false_iff_ne.mpr hday
    simp only [settleDay, hdue, hbeq, hday, Bool.and_false, if_true, if_false]
    rfl

/-- A step closes the open interval STEPPED, and the day is compared after it (R92, R146, R151). -/
theorem settleDay_closeStepped (before : Nat) (hstatus : s.timebase.status ≠ .unset) :
    settleDay (closeStepped s before s.timebase.time) =
      { s with
        timebase := { s.timebase with currentDay := s.derivedDay }
        refund := { s.refund with locked := s.refund.locked && s.timebase.currentDay == s.derivedDay }
        count :=
          if s.count.log.length < 96 then
            s.count.closedAt s.profile before
              (boundaryAtOrBefore s.profile.intervalMinutes s.profile.rollover s.timebase.time) { stepped := true }
          else s.count.heldAt s.profile s.timebase.time { stepped := true }
        postsInFlight :=
          s.postsInFlight ++ [s.count.closingPost { stepped := true }] ++
            (if s.timebase.currentDay = s.derivedDay then [] else [.dayRollover s.derivedDay]) } := by
  rw [closeStepped, IntervalFlags.ofStep, closeInterval_eq]
  exact settleDay_eq hstatus

/-- What an event does that moves station time to a timebase that is not UNSET and closes the interval (R92, R144, R146, R151). -/
def State.stepped (s : State) (b : Timebase) (posts posts' : List NoticeDetail) : State :=
  let d := operatingDay s.profile.rollover b.time
  { s with
    timebase := { b with currentDay := d }
    refund := { s.refund with locked := s.refund.locked && b.currentDay == d }
    count :=
      if s.count.log.length < 96 then
        s.count.closedAt s.profile s.timebase.time
          (boundaryAtOrBefore s.profile.intervalMinutes s.profile.rollover b.time) { stepped := true }
      else s.count.heldAt s.profile b.time { stepped := true }
    postsInFlight :=
      s.postsInFlight ++ posts ++ [s.count.closingPost { stepped := true }] ++
        (if b.currentDay = d then [] else [.dayRollover d]) ++ posts' }

theorem stepReference_eq (s : State) (tRef : Nat) :
    stepReference s tRef = s.stepped (s.timebase.setTime tRef).accept [] [.timebase .locked true] := by
  have hstep := settleDay_closeStepped (s := { s with timebase := (s.timebase.setTime tRef).accept }) s.timebase.time
    (by simp [Timebase.accept])
  have htime : ({ s with timebase := (s.timebase.setTime tRef).accept } : State).timebase.time = tRef := rfl
  rw [htime] at hstep
  simp only [stepReference, hstep, State.stepped, List.append_nil]
  rfl

theorem setReference_eq (s : State) (tRef : Nat) {e : Int} {b : Timebase}
    (hb : (if -Config.slewRange ≤ e ∧ e < 0 then { s.timebase.slewBy e s.elapsed with lastKnown := s.timebase.time }
      else s.timebase.setTime tRef) = b) :
    setReference s tRef e = s.stepped b.accept [.timebase .locked true] [] := by
  have hstep := settleDay_closeStepped (s := ({ s with timebase := b.accept } : State).post (.timebase .locked true))
    s.timebase.time (by simp [Timebase.accept])
  unfold setReference
  dsimp only
  rw [hb, hstep]
  simp only [State.stepped, List.append_nil]
  rfl

/-- What a reference that steps station time, or makes a small offset in UNSET a pending correction, reports (R148). -/
theorem referenceBytes_stepped (cse : Nat) (e : Int) (s : State) (b : Timebase) (posts posts' : List NoticeDetail) :
    referenceBytes cse e (s.stepped b.accept posts posts') =
      beBytes 1 cse ++ beSigned 6 e ++ beBytes 5 b.time ++ beBytes 1 1 ++ beSigned 2 b.trim ++ beSigned 2 b.correction ++
        beBytes 2 (operatingDay s.profile.rollover b.time) := by
  rw [referenceBytes_of_locked _ _ rfl, opDay_of_locked rfl]
  rfl

@[simp] theorem stepped_postsInFlight (s : State) (b : Timebase) (posts posts' : List NoticeDetail) :
    (s.stepped b posts posts').postsInFlight =
      s.postsInFlight ++ posts ++ [s.count.closingPost { stepped := true }] ++
        (if b.currentDay = operatingDay s.profile.rollover b.time then []
          else [.dayRollover (operatingDay s.profile.rollover b.time)]) ++ posts' := rfl

/-- A step changes timebase, tariff lock and count unit, and posts (R92, R104, R146). -/
theorem stepped_frame (s : State) (b : Timebase) (posts posts' : List NoticeDetail) :
    s.stepped b posts posts' =
      { s with
        timebase := (s.stepped b posts posts').timebase
        refund := (s.stepped b posts posts').refund
        count := (s.stepped b posts posts').count
        postsInFlight := (s.stepped b posts posts').postsInFlight } := rfl

theorem stepped_count_of_room (b : Timebase) (posts posts' : List NoticeDetail) (h : s.count.log.length < 96) :
    (s.stepped b posts posts').count =
      s.count.closedAt s.profile s.timebase.time
        (boundaryAtOrBefore s.profile.intervalMinutes s.profile.rollover b.time) { stepped := true } := if_pos h

theorem stepped_count_of_full (b : Timebase) (posts posts' : List NoticeDetail) (h : 96 ≤ s.count.log.length) :
    (s.stepped b posts posts').count = s.count.heldAt s.profile b.time { stepped := true } :=
  if_neg (Nat.not_lt.mpr h)

theorem exec_timeReference_slewed {i : StationId} (tag : Byte) {tRef : Nat} (force : Bool) (hopen : Open s (.station i))
    (href : tRef < 2 ^ 40)
    (hcase : referenceCase s.timebase.status ((tRef : Int) - s.timebase.time) force = .slew) :
    let u := slewReference s ((tRef : Int) - s.timebase.time)
    exec (.timeReference (.station i) tag (beBytes 5 tRef ++ boolByte force)) s =
      .next
        (u.answered (.station i) 0x58 tag .ok
          (beBytes 1 1 ++ beSigned 6 ((tRef : Int) - s.timebase.time) ++ beBytes 5 s.timebase.time ++ beBytes 1 1 ++
            beSigned 2 u.timebase.trim ++ beSigned 2 ((tRef : Int) - s.timebase.time) ++ beBytes 2 u.opDay)) := by
  intro u
  have htimebase : u.timebase = _ := congrArg State.timebase (slewReference_eq s _)
  have hstatus : u.timebase.status = .locked := by rw [htimebase]; rfl
  have htime : u.timebase.time = s.timebase.time := by rw [htimebase]; rfl
  have hcorrection : u.timebase.correction = (tRef : Int) - s.timebase.time := by rw [htimebase]; rfl
  rw [exec_timeReference_answered tag force hopen href hcase (u := u) rfl, referenceBytes_of_locked _ _ hstatus, htime,
    hcorrection, if_neg (by simp)]
  rfl

theorem exec_timeReference_stepped {i : StationId} (tag : Byte) {tRef : Nat} (force : Bool) (hopen : Open s (.station i))
    (href : tRef < 2 ^ 40) {cse : ReferenceCase} {b : Timebase} {posts posts' : List NoticeDetail}
    (hcase : referenceCase s.timebase.status ((tRef : Int) - s.timebase.time) force = cse) (hok : cse ≠ .refused)
    (hu : applyReference s tRef ((tRef : Int) - s.timebase.time) cse = s.stepped b.accept posts posts') :
    exec (.timeReference (.station i) tag (beBytes 5 tRef ++ boolByte force)) s =
      .next
        ((s.stepped b.accept posts posts').answered (.station i) 0x58 tag .ok
          (beBytes 1 (caseCode cse) ++ beSigned 6 ((tRef : Int) - s.timebase.time) ++ beBytes 5 b.time ++ beBytes 1 1 ++
            beSigned 2 b.trim ++ beSigned 2 b.correction ++ beBytes 2 (operatingDay s.profile.rollover b.time))) := by
  rw [exec_timeReference_answered tag force hopen href hcase hu, referenceBytes_stepped, if_neg hok]

/-- Settles O52, by the case of the reference. -/
theorem referencesSlewOrSetTime : Obligations.ReferencesSlewOrSetTime := by
  refine ⟨?_, ?_, ?_⟩
  · intro s i tag tRef force hopen href hstatus b e hlo hhi
    have hcase : referenceCase b.status e force = .slew := by
      have hnear : ¬ e < -Config.slewRange := Int.not_lt.mpr hlo
      have hnear' : e ≤ Config.slewRange := hhi
      simp [referenceCase, hnear, hnear', hstatus, b]
    refine ⟨slewReference s e, exec_timeReference_slewed tag force hopen href hcase, ?_, fun mark hmark hspan => ?_, fun hshort => ?_⟩ <;>
      rw [slewReference_eq]
    · rfl
    · exact tunedTrim_of_long e hmark hspan
    · exact tunedTrim_of_short e hshort
  · intro s i tag tRef force hopen href b hfar
    by_cases hunset : b.status = .unset
    · have hcase : referenceCase b.status ((tRef : Int) - b.time) force = .set := by
        have hnot : ¬ ((tRef : Int) - b.time < -Config.slewRange ∧ force = false) := by
          rintro ⟨hbehind, hf⟩
          simp only [Config.slewRange] at hbehind
          simp [hunset, hf] at hfar
          omega
        unfold referenceCase
        rw [if_neg hnot, if_pos hunset]
      have hsmall : ¬ (-Config.slewRange ≤ (tRef : Int) - b.time ∧ (tRef : Int) - b.time < 0) := by
        simp only [Config.slewRange]
        obtain ⟨-, hle⟩ | ⟨hset, -⟩ | ⟨-, hle⟩ := hfar
        · omega
        · exact absurd hunset hset
        · omega
      have hexec := exec_timeReference_stepped tag force hopen href hcase (by simp) (setReference_eq s tRef (if_neg hsmall))
      refine ⟨_, _, _, hexec, rfl, ?_, rfl, rfl, rfl, fun hroom => stepped_count_of_room _ _ _ hroom,
        fun hfull => stepped_count_of_full _ _ _ hfull, ?_, rfl⟩
      · rw [if_pos hunset]
        rfl
      · rw [stepped_postsInFlight, if_pos hunset]
        simp only [List.append_assoc, List.append_nil]
        rfl
    · have hstepped {cse : ReferenceCase} (hcase : referenceCase b.status ((tRef : Int) - b.time) force = cse)
          (hcse : (cse = .step ∧ b.time < tRef) ∨ (cse = .forced ∧ ¬ b.time < tRef)) :
          caseCode cse = (if b.time < tRef then 2 else 3) ∧ cse ≠ .refused ∧
            applyReference s tRef ((tRef : Int) - b.time) cse =
              s.stepped (b.setTime tRef).accept [] [.timebase .locked true] := by
        obtain ⟨rfl, hlt⟩ | ⟨rfl, hlt⟩ := hcse
        · exact ⟨(if_pos hlt).symm, by simp, stepReference_eq s tRef⟩
        · exact ⟨(if_neg hlt).symm, by simp, stepReference_eq s tRef⟩
      have hcse : ∃ cse, referenceCase b.status ((tRef : Int) - b.time) force = cse ∧
          ((cse = .step ∧ b.time < tRef) ∨ (cse = .forced ∧ ¬ b.time < tRef)) := by
        unfold referenceCase Config.slewRange
        obtain ⟨hset, -⟩ | ⟨-, hahead⟩ | ⟨rfl, hbehind⟩ := hfar
        · exact absurd hset hunset
        · refine ⟨.step, ?_, .inl ⟨rfl, by omega⟩⟩
          rw [if_neg (by omega), if_neg hunset, if_neg (by omega), if_neg (by omega)]
        · refine ⟨.forced, ?_, .inr ⟨rfl, by omega⟩⟩
          rw [if_neg (by simp), if_neg hunset, if_pos (by omega)]
      obtain ⟨cse, hcase, hcse⟩ := hcse
      obtain ⟨hcode, hok, hu⟩ := hstepped hcase hcse
      have hexec := exec_timeReference_stepped tag force hopen href hcase hok hu
      refine ⟨_, _, _, hexec, rfl, ?_, rfl, rfl, rfl, fun hroom => stepped_count_of_room _ _ _ hroom,
        fun hfull => stepped_count_of_full _ _ _ hfull, ?_, rfl⟩
      · rw [if_neg hunset, hcode]
        rfl
      · rw [stepped_postsInFlight, if_neg hunset]
        simp only [List.append_assoc, List.append_nil]
        rfl
  · intro s i tag tRef force hopen b e d hunset hlt hnear href
    have hcase : referenceCase b.status e force = .set := by
      have hnot : ¬ e < -Config.slewRange := by simp only [Config.slewRange, e]; omega
      simp [referenceCase, hnot, hunset]
    have hsmall : -Config.slewRange ≤ e ∧ e < 0 := by simp only [Config.slewRange, e]; omega
    have hexec := exec_timeReference_stepped tag force hopen href hcase (by simp)
      (setReference_eq s tRef (e := e) (if_pos hsmall))
    refine ⟨_, hexec, rfl, fun hroom => stepped_count_of_room _ _ _ hroom, fun hfull => stepped_count_of_full _ _ _ hfull, ?_⟩
    refine (stepped_frame ..).trans ?_
    rw [stepped_postsInFlight]
    simp only [List.append_assoc, List.append_nil]
    rfl

end Sys2Proof.Machine
end

section
/-! PROOF. The running of station time and the timebase's own events (R104, R140 to R142, R151, R152). -/

namespace Sys2Proof.Machine

variable {s t : State} {b : Timebase}

/-! ## One millisecond -/

/-- The rises that come with the next millisecond of elapsed time, the withheld ones among them (R140, R141). -/
def Timebase.rises (b : Timebase) : Nat := (b.fraction + (1000000 + b.trim).toNat) / 1000000

theorem risen_of_le {time rises : Nat} (h : time + rises ≤ 2 ^ 40 - 1) : risen time rises = time + rises := Nat.min_eq_right h

theorem risen_of_lt {time rises : Nat} (h : 2 ^ 40 - 1 < time + rises) : risen time rises = 2 ^ 40 - 1 :=
  Nat.min_eq_left (Nat.le_of_lt h)

theorem tick_time (b : Timebase) : b.tick.time = risen b.time (b.rises - b.withheld) := rfl

/-- The rises of one millisecond and the fraction left are all that the millisecond adds (R140). -/
theorem tick_conserves (htrim : -1000000 ≤ b.trim) :
    (b.rises : Int) * 1000000 + b.tick.fraction = (b.fraction : Int) + 1000000 + b.trim := by
  have hdiv := Nat.div_add_mod (b.fraction + (1000000 + b.trim).toNat) 1000000
  have hrises : b.rises = (b.fraction + (1000000 + b.trim).toNat) / 1000000 := rfl
  have hfraction : b.tick.fraction = (b.fraction + (1000000 + b.trim).toNat) % 1000000 := rfl
  omega

/-- Where every withheld rise comes and the end of the range is not reached, station time takes the rest (R140, R141). -/
theorem tick_time_of_room (htrim : -1000000 ≤ b.trim) (hheld : b.withheld ≤ b.rises)
    (hroom : b.time + (b.rises - b.withheld) ≤ 2 ^ 40 - 1) :
    (b.tick.time : Int) * 1000000 + b.tick.fraction + b.withheld * 1000000 =
      (b.time : Int) * 1000000 + b.fraction + 1000000 + b.trim := by
  have hsum := tick_conserves htrim
  rw [tick_time, risen_of_le hroom]
  omega

/-! ## The conditions of the events -/

theorem ageOver_iff : ageOver b = true ↔ ∃ age, b.refAge = some age ∧ 21600000 ≤ age := by
  unfold ageOver
  cases b.refAge with
  | none => simp
  | some age => exact decide_eq_true_iff.trans (by simp [Config.freeAge])

theorem dayDue_iff : s.dayDue = true ↔ s.timebase.status ≠ .unset ∧ s.derivedDay ≠ s.timebase.currentDay := by
  simp [State.dayDue]

theorem settleDay_of_due (h : s.dayDue = true) :
    settleDay s =
      { s with
        timebase := { s.timebase with currentDay := s.derivedDay }
        refund := { s.refund with locked := false }
        postsInFlight := s.postsInFlight ++ [.dayRollover s.derivedDay] } := by
  rw [settleDay, if_pos h]
  rfl

theorem settleDay_of_not_due (h : ¬ s.dayDue = true) : settleDay s = s := if_neg h

theorem slew_of_ahead (h : 0 < b.correction) :
    b.slew =
      { b with time := min (2 ^ 40 - 1) (b.time + 1), correction := b.correction - 1, slewDue := b.slewDue + 100 } :=
  if_pos h

theorem slew_of_behind (h : b.correction < 0) :
    b.slew = { b with withheld := b.withheld + 1, correction := b.correction + 1, slewDue := b.slewDue + 100 } :=
  if_neg (by omega)

theorem exec_slewTick_due (h : s.timebase.correction ≠ 0) (hdue : s.timebase.slewDue ≤ s.elapsed) :
    exec .slewTick s = .next { s with timebase := s.timebase.slew } := congrArg Host.Outcome.next (if_pos ⟨h, hdue⟩)

/-- Settles O53: each event from its definition, the rises of a millisecond by the division that counts them. -/
theorem timebaseEventsTakeEffect : Obligations.TimebaseEventsTakeEffect := by
  refine ⟨?_, ?_⟩
  · intro s h b rises
    obtain ⟨htime, -, ⟨hlo, -⟩, -⟩ := h
    have htrim : -1000000 ≤ b.trim := le_trans (by decide) hlo
    refine ⟨b.tick, rfl, rfl, Nat.mod_lt _ (by decide), le_risen htime _, rfl, tick_conserves htrim, fun hheld => ⟨?_, ?_, ?_⟩,
      fun hheld => ⟨?_, rfl⟩, fun htop => ?_⟩
    · exact Nat.sub_eq_zero_of_le hheld
    · exact tick_time_of_room htrim hheld
    · exact fun hover => risen_of_lt hover
    · have hnone : b.rises - b.withheld = 0 := Nat.sub_eq_zero_of_le (Nat.le_of_lt hheld)
      rw [tick_time, hnone]
      exact risen_of_le htime
    · rw [tick_time, htop]
      exact Nat.min_eq_left (Nat.le_add_right _ _)
  · intro s b
    refine ⟨fun hahead hdue => ?_, fun hbehind hdue => ?_, fun hnot => ?_, fun age hage hlocked hold => ?_, fun hyoung => ?_,
      fun hdue => ?_, fun hnot => ?_, fun d hd => ?_⟩
    · rw [exec_slewTick_due (ne_of_gt hahead) hdue, slew_of_ahead hahead]
    · rw [exec_slewTick_due (ne_of_lt hbehind) hdue, slew_of_behind hbehind]
    · refine congrArg Host.Outcome.next (if_neg ?_)
      rintro ⟨hpending, hdue⟩
      exact hnot.elim hpending (Nat.not_lt.mpr hdue)
    · exact congrArg Host.Outcome.next (if_pos ⟨hlocked, ageOver_iff.mpr ⟨age, hage, hold⟩⟩)
    · refine congrArg Host.Outcome.next (if_neg ?_)
      rintro ⟨hlocked, hover⟩
      obtain ⟨age, hage, hold⟩ := ageOver_iff.mp hover
      exact hyoung.elim (· hlocked) fun hyoung => Nat.not_lt.mpr hold (hyoung age hage)
    · exact congrArg Host.Outcome.next (if_pos hdue)
    · exact congrArg Host.Outcome.next (if_neg (Nat.not_le.mpr hnot))
    · subst hd
      refine ⟨fun hset hday => ?_, fun hnot => ?_⟩
      · exact congrArg Host.Outcome.next (settleDay_of_due (dayDue_iff.mpr ⟨hset, hday⟩))
      · refine congrArg Host.Outcome.next (settleDay_of_not_due fun hdue => ?_)
        obtain ⟨hset, hday⟩ := dayDue_iff.mp hdue
        exact hnot.elim hset hday

end Sys2Proof.Machine
end

section
/-! PROOF. The body of a CONFIGURE: the bytes of an item spell the item, and a body spells its items exactly when it is their
bytes one after another (R172, R173). -/

namespace Sys2Proof.Machine

/-! ## Bytes and numbers -/

/-- The bytes of the number that some bytes spell are those bytes (R166). -/
theorem beBytes_ofBytes (bs : List Byte) : beBytes bs.length (ofBytes bs) = bs := by
  have hmod (n v w : Nat) : beBytes n (v * 256 ^ n + w) = beBytes n w := by
    induction n generalizing v with
    | zero => rfl
    | succ n ih =>
      have hsplit : v * 256 ^ (n + 1) + w = (v * 256) * 256 ^ n + w := by ring
      rw [beBytes, beBytes, hsplit, ih, Nat.add_comm, Nat.add_mul_div_right _ _ (by positivity)]
      refine congrArg (· :: _) (BitVec.eq_of_toNat_eq ?_)
      simp [Nat.add_mod]
  induction bs with
  | nil => rfl
  | cons b rest ih =>
    have htop : (b.toNat * 256 ^ rest.length + ofBytes rest) / 256 ^ rest.length = b.toNat := by
      rw [Nat.add_comm, Nat.add_mul_div_right _ _ (by positivity), Nat.div_eq_of_lt (ofBytes_lt rest), Nat.zero_add]
    rw [ofBytes_cons, List.length_cons, beBytes, hmod, ih, htop, BitVec.ofNat_toNat, BitVec.setWidth_eq]

theorem ofSigned16_beSigned {v : Int} (hlo : -32768 ≤ v) (hhi : v ≤ 32767) : ofSigned16 (beSigned 2 v) = v := by
  have hlt : (v % (65536 : Int)).toNat < 65536 := by omega
  have hbytes : ofBytes (beSigned 2 v) = (v % 65536).toNat := by
    rw [beSigned, ofBytes_beBytes]
    exact Nat.mod_eq_of_lt hlt
  simp only [ofSigned16, hbytes]
  split <;> omega

theorem ofBytes_lt_of_two {bs : List Byte} (h : bs.length = 2) : ofBytes bs < 65536 := by
  have hlt := ofBytes_lt bs
  rwa [h] at hlt

theorem beSigned_ofSigned16 {bs : List Byte} (h : bs.length = 2) : beSigned 2 (ofSigned16 bs) = bs := by
  have hlt := ofBytes_lt_of_two h
  have hmod : (ofSigned16 bs % (256 ^ 2 : Nat)).toNat = ofBytes bs := by
    simp only [ofSigned16]
    split <;> omega
  rw [beSigned, hmod, ← h, beBytes_ofBytes]

theorem ofSigned16_range {bs : List Byte} (h : bs.length = 2) : -32768 ≤ ofSigned16 bs ∧ ofSigned16 bs ≤ 32767 := by
  have hlt := ofBytes_lt_of_two h
  simp only [ofSigned16]
  split <;> omega

/-- A value that is not negative has the bytes of its number. -/
theorem beSigned_natCast {n v : Nat} (h : v < 256 ^ n) : beSigned n (v : Int) = beBytes n v := by
  have hmod : ((v : Int) % (256 ^ n : Nat)).toNat = v := by
    rw [← Int.natCast_mod, Int.toNat_natCast, Nat.mod_eq_of_lt h]
  rw [beSigned, hmod]

/-! ## One item -/

/-- The index an item's second byte carries (R172, R173). -/
def ProfileField.index : ProfileField → Nat
  | .lift k => k.val
  | .zone l => l.val
  | .passback l => l.val
  | .mode k => k.val
  | _ => 0

theorem fieldOfBytes_self (f : ProfileField) : fieldOfBytes (BitVec.ofNat 8 f.code) (BitVec.ofNat 8 f.index) = some f := by
  have hlift (l : LiftId) : (if h : (BitVec.ofNat 8 l.val).toNat < 2 then some (⟨_, h⟩ : LiftId) else none) = some l := by
    revert l
    decide
  cases f with
  | lift k => exact congrArg (Option.map ProfileField.lift) (laneOfByte_ofNat k)
  | mode k => exact congrArg (Option.map ProfileField.mode) (laneOfByte_ofNat k)
  | zone l => exact congrArg (Option.map ProfileField.zone) (hlift l)
  | passback l => exact congrArg (Option.map ProfileField.passback) (hlift l)
  | _ => rfl

theorem toNat_of_laneOfByte {b : Byte} {k : LaneId} (h : laneOfByte b = some k) : b.toNat = k.val := by
  unfold laneOfByte at h
  split at h
  · exact congrArg Fin.val (Option.some.inj h)
  · cases h

/-- A code and an index name a field by its own two numbers alone (R172, R173). -/
theorem eq_of_fieldOfBytes {code index : Byte} {f : ProfileField} (h : fieldOfBytes code index = some f) :
    code.toNat = f.code ∧ index.toNat = f.index := by
  have hplain {g : ProfileField} (hindex : g.index = 0) (hg : (if index = 0 then some g else none) = some f) :
      f = g ∧ index.toNat = f.index := by
    split at hg
    · rename_i hzero
      obtain rfl := Option.some.inj hg
      exact ⟨rfl, by simp [hzero, hindex]⟩
    · cases hg
  have hlane {g : LaneId → ProfileField} (hindex : ∀ k, (g k).index = k.val) (hg : (laneOfByte index).map g = some f) :
      (∃ k, f = g k) ∧ index.toNat = f.index := by
    obtain ⟨k, hk, rfl⟩ := Option.map_eq_some_iff.mp hg
    exact ⟨⟨k, rfl⟩, by rw [hindex, toNat_of_laneOfByte hk]⟩
  have hlift {g : LiftId → ProfileField} (hindex : ∀ l, (g l).index = l.val)
      (hg : (if h : index.toNat < 2 then some (⟨index.toNat, h⟩ : LiftId) else none).map g = some f) :
      (∃ l, f = g l) ∧ index.toNat = f.index := by
    obtain ⟨l, hl, rfl⟩ := Option.map_eq_some_iff.mp hg
    split at hl
    · exact ⟨⟨l, rfl⟩, by rw [hindex, ← Option.some.inj hl]⟩
    · cases hl
  unfold fieldOfBytes at h
  dsimp only at h
  split at h
  case h_2 hcode =>
    obtain ⟨⟨k, rfl⟩, hi⟩ := hlane (fun _ => rfl) h
    exact ⟨hcode, hi⟩
  case h_5 hcode =>
    obtain ⟨⟨k, rfl⟩, hi⟩ := hlane (fun _ => rfl) h
    exact ⟨hcode, hi⟩
  case h_3 hcode =>
    obtain ⟨⟨k, rfl⟩, hi⟩ := hlift (fun _ => rfl) h
    exact ⟨hcode, hi⟩
  case h_4 hcode =>
    obtain ⟨⟨k, rfl⟩, hi⟩ := hlift (fun _ => rfl) h
    exact ⟨hcode, hi⟩
  case h_13 => cases h
  all_goals
    rename_i hcode
    obtain ⟨rfl, hi⟩ := hplain rfl h
    exact ⟨hcode, hi⟩

/-- An item that bytes can spell: the value fits its field's width (R173). -/
def ConfigItem.sendable (x : ConfigItem) : Prop :=
  (x.field = .trim ∧ -32768 ≤ x.value ∧ x.value ≤ 32767) ∨ (x.field ≠ .trim ∧ 0 ≤ x.value ∧ x.value < 256 ^ x.field.width)

/-- The bytes of an item (R172, R173). -/
def ConfigItem.spelled (x : ConfigItem) : List Byte :=
  beBytes 1 x.field.code ++ beBytes 1 x.field.index ++ beSigned x.field.width x.value

theorem itemValue_of_ne_trim {f : ProfileField} (h : f ≠ .trim) (bs : List Byte) : itemValue f bs = (ofBytes bs : Int) := by
  cases f with
  | trim => exact absurd rfl h
  | _ => rfl

theorem itemValue_beSigned {x : ConfigItem} (h : x.sendable) : itemValue x.field (beSigned x.field.width x.value) = x.value := by
  obtain ⟨hf, hlo, hhi⟩ | ⟨hf, hlo, hhi⟩ := h
  · rw [hf]
    exact ofSigned16_beSigned hlo hhi
  · obtain ⟨v, hv⟩ := Int.eq_ofNat_of_zero_le hlo
    have hlt : v < 256 ^ x.field.width := by
      rw [hv] at hhi
      exact_mod_cast hhi
    rw [itemValue_of_ne_trim hf, hv, beSigned_natCast hlt, ofBytes_beBytes, Nat.mod_eq_of_lt hlt]

theorem sendable_itemValue (f : ProfileField) {bs : List Byte} (h : bs.length = f.width) :
    ({ field := f, value := itemValue f bs } : ConfigItem).sendable ∧ beSigned f.width (itemValue f bs) = bs := by
  by_cases hf : f = .trim
  · subst hf
    exact ⟨.inl ⟨rfl, ofSigned16_range h⟩, beSigned_ofSigned16 h⟩
  · have hlt : ofBytes bs < 256 ^ f.width := h ▸ ofBytes_lt bs
    rw [itemValue_of_ne_trim hf]
    refine ⟨.inr ⟨hf, Int.natCast_nonneg _, ?_⟩, ?_⟩
    · dsimp only
      exact_mod_cast hlt
    · rw [beSigned_natCast hlt, ← h, beBytes_ofBytes]

/-! ## The items of a body -/

theorem beSigned_length (n : Nat) (v : Int) : (beSigned n v).length = n := beBytes_length n _

theorem configItems_cons {x : ConfigItem} (hx : x.sendable) (fuel : Nat) (rest : List Byte) :
    configItems (fuel + 1) (x.spelled ++ rest) = (configItems fuel rest).map (x :: ·) := by
  have hlong : ¬ (beSigned x.field.width x.value ++ rest).length < x.field.width := by simp [beSigned_length]
  have htake := List.take_left' (l₂ := rest) (beSigned_length x.field.width x.value)
  have hdrop := List.drop_left' (l₂ := rest) (beSigned_length x.field.width x.value)
  have hcode (n : Nat) : beBytes 1 n = [BitVec.ofNat 8 n] := by simp [beBytes]
  simp only [ConfigItem.spelled, hcode, List.cons_append, List.nil_append, configItems, fieldOfBytes_self, hlong, if_false,
    htake, hdrop, itemValue_beSigned hx]
  cases configItems fuel rest <;> rfl

theorem configItems_spelled {items : List ConfigItem} (h : ∀ x ∈ items, x.sendable) {fuel : Nat} (hfuel : items.length ≤ fuel) :
    configItems fuel (items.flatMap ConfigItem.spelled) = some items := by
  induction items generalizing fuel with
  | nil => cases fuel <;> rfl
  | cons x rest ih =>
    obtain ⟨hx, hrest⟩ := List.forall_mem_cons.mp h
    obtain ⟨n, rfl⟩ : ∃ n, fuel = n + 1 := ⟨fuel - 1, by simp at hfuel; omega⟩
    rw [List.flatMap_cons, configItems_cons hx, ih hrest (Nat.le_of_succ_le_succ hfuel)]
    rfl

theorem spelled_of_configItems {fuel : Nat} {body : List Byte} {items : List ConfigItem}
    (h : configItems fuel body = some items) : (∀ x ∈ items, x.sendable) ∧ body = items.flatMap ConfigItem.spelled := by
  induction fuel, body using configItems.induct generalizing items with
  | case1 =>
    simp only [configItems, Option.some.injEq] at h
    subst h
    simp
  | case2 => simp [configItems] at h
  | case3 fuel code index rest hf => simp [configItems, hf] at h
  | case4 fuel code index rest f hf hshort => simp [configItems, hf, hshort] at h
  | case5 fuel code index rest f hf hlong hrec _ => simp [configItems, hf, hlong, hrec] at h
  | case6 fuel code index rest f hf hlong items' hrec ih =>
    simp only [configItems, hf, hlong, hrec, if_false, Option.some.injEq] at h
    subst h
    obtain ⟨hsend, hbytes⟩ := ih hrec
    obtain ⟨hcode, hindex⟩ := eq_of_fieldOfBytes hf
    obtain ⟨hx, hvalue⟩ := sendable_itemValue f (bs := rest.take f.width) (List.length_take_of_le (Nat.le_of_not_lt hlong))
    refine ⟨List.forall_mem_cons.mpr ⟨hx, hsend⟩, ?_⟩
    rw [List.flatMap_cons, ← hbytes, ConfigItem.spelled, hvalue, ← hcode, ← hindex]
    simp [beBytes]
  | case7 => simp_all [configItems]

theorem length_le_spelled (items : List ConfigItem) : items.length ≤ (items.flatMap ConfigItem.spelled).length := by
  induction items with
  | nil => exact Nat.le_refl _
  | cons x rest ih =>
    simp only [List.flatMap_cons, List.length_append, List.length_cons, ConfigItem.spelled, beBytes_length]
    omega

/-- A body spells its items exactly when it is their bytes one after another (R172, R173). -/
theorem configureBody_iff {body : List Byte} {items : List ConfigItem} :
    configureBody body = some items ↔
      items ≠ [] ∧ (items.map ConfigItem.field).Nodup ∧ (∀ x ∈ items, x.sendable) ∧
        body = items.flatMap ConfigItem.spelled := by
  unfold configureBody
  constructor
  · intro h
    split at h
    · cases h
    · rename_i items' hitems
      split at h
      · cases h
      · rename_i hform
        obtain rfl := Option.some.inj h
        obtain ⟨hne, hnodup⟩ := not_or.mp hform
        exact ⟨hne, not_not.mp hnodup, spelled_of_configItems hitems⟩
  · rintro ⟨hne, hnodup, hsend, rfl⟩
    rw [configItems_spelled hsend (length_le_spelled items)]
    exact if_neg (not_or.mpr ⟨hne, not_not.mpr hnodup⟩)

end Sys2Proof.Machine
end

section
/-! PROOF. CONFIGURE: clamping, the lanes an item concerns, and what an accepted one stores and sets off (R172 to R174). -/

namespace Sys2Proof.Machine

variable {s t : State}

/-! ## Clamping -/

theorem clampRange_natCast (lo hi v : Nat) : clampRange lo hi (v : Int) = min hi (max lo v) := rfl

theorem clampInterval_natCast (v : Nat) :
    clampInterval (v : Int) =
      if v ≤ 7 then 5 else if v ≤ 12 then 10 else if v ≤ 17 then 15 else if v ≤ 24 then 20 else if v ≤ 44 then 30 else 60 := by
  simp only [clampInterval, Nat.cast_le_ofNat]

theorem clampLift_natCast (v : Nat) : clampLift (v : Int) = if v = 0 then 0 else 1 := by
  simp only [clampLift, Int.natCast_eq_zero]

theorem clampMode_natCast (v : Nat) : clampMode (v : Int) = if v = 0 then .timed else .held := by
  simp only [clampMode, Int.natCast_eq_zero]

theorem clampPolicy_natCast (v : Nat) :
    clampPolicy (v : Int) = if v = 0 then .roundRobin else if v = 1 then .lanesFirst else .stationFirst := by
  simp only [clampPolicy, Int.natCast_eq_zero, Nat.cast_eq_one]

theorem storeTrim_of_ne {x : ProfileField} (h : x ≠ .trim) (trim v : Int) : storeTrim trim { field := x, value := v } = trim := by
  cases x with
  | trim => exact absurd rfl h
  | _ => rfl

theorem raiseTimeout_of_le {f : Profile} (h : f.pulse ≤ f.passTimeout * 1000) : f.raiseTimeout = f :=
  if_neg (Nat.not_lt.mpr h)

theorem raiseTimeout_of_lt {f : Profile} (h : f.passTimeout * 1000 < f.pulse) :
    f.raiseTimeout = { f with passTimeout := (f.pulse + 999) / 1000 } :=
  if_pos h

/-! ## Concerned lanes -/

/-- A lane is concerned where an item would change what the lane is assigned to or driven by (R173). -/
theorem concerns_iff (f : Profile) (x : ConfigItem) (k : LaneId) :
    concerns f x k = true ↔
      (f.store x).liftOf[k.val] ≠ f.liftOf[k.val] ∨ (f.store x).modeOf[k.val] ≠ f.modeOf[k.val] ∨
        (f.store x).zoneOf[(f.liftOf[k.val]).val] ≠ f.zoneOf[(f.liftOf[k.val]).val] ∨
        (f.store x).passback[(f.liftOf[k.val]).val] ≠ f.passback[(f.liftOf[k.val]).val] ∨
        (k.val < f.lanesEnabled ∧ (f.store x).lanesEnabled ≤ k.val) := by
  have hkept : ¬ (k.val < f.lanesEnabled ∧ f.lanesEnabled ≤ k.val) := by omega
  obtain ⟨field, v⟩ := x
  cases field with
  | lanesEnabled => 
    rw [concerns, Bool.and_eq_true, decide_eq_true_iff, decide_eq_true_iff]
    simp [Profile.store]
  | lift j =>
    by_cases hj : j = k
    · subst hj
      simp [concerns, Profile.store, hkept]
    · have hne : j.val ≠ k.val := fun h => hj (Fin.ext h)
      simp [concerns, Profile.store, hkept, hne]
  | mode j =>
    by_cases hj : j = k
    · subst hj
      simp [concerns, Profile.store, hkept]
    · have hne : j.val ≠ k.val := fun h => hj (Fin.ext h)
      simp [concerns, Profile.store, hkept, hne]
  | zone l =>
    by_cases hl : f.liftOf[k.val] = l
    · subst hl
      simp [concerns, Profile.store, hkept]
    · have hne : l.val ≠ (f.liftOf[k.val]).val := fun h => hl (Fin.ext h.symm)
      simp [concerns, Profile.store, hkept, hl, hne]
  | passback l =>
    by_cases hl : f.liftOf[k.val] = l
    · subst hl
      simp [concerns, Profile.store, hkept]
    · have hne : l.val ≠ (f.liftOf[k.val]).val := fun h => hl (Fin.ext h.symm)
      simp [concerns, Profile.store, hkept, hl, hne]
  | _ => simp [concerns, Profile.store, hkept]

/-- The lowest lane not SHUT that an item concerns (R173, R174). -/
theorem openLaneOf_eq_some {x : ConfigItem} {k : LaneId} (hconcerned : concerns s.profile x k = true)
    (hopen : (s.lane k).current ≠ .shut)
    (hlower : ∀ j, j < k → concerns s.profile x j = true → (s.lane j).current = .shut) : openLaneOf s x = some k := by
  refine List.find?_eq_some_iff_getElem.mpr ⟨by simp [hconcerned, hopen], k.val, by simp, by simp, fun j hj => ?_⟩
  have hshut := hlower ⟨j, hj.trans k.isLt⟩ hj
  simpa [← imp_iff_not_or, ← Bool.not_eq_true] using hshut

theorem openLaneOf_eq_none {x : ConfigItem} (h : ∀ k, concerns s.profile x k = true → (s.lane k).current = .shut) :
    openLaneOf s x = none := by
  refine List.find?_eq_none.mpr fun k _ => ?_
  simpa using h k

theorem lanesOpen_append {before : List ConfigItem} (rest : List ConfigItem)
    (h : ∀ y ∈ before, ∀ j, concerns s.profile y j = true → (s.lane j).current = .shut) :
    lanesOpen s (before ++ rest) = lanesOpen s rest := by
  induction before with
  | nil => rfl
  | cons y before ih =>
    obtain ⟨hy, hbefore⟩ := List.forall_mem_cons.mp h
    rw [List.cons_append, lanesOpen, openLaneOf_eq_none hy]
    exact ih hbefore

theorem lanesOpen_cons_of_some {x : ConfigItem} {k : LaneId} (rest : List ConfigItem) (h : openLaneOf s x = some k) :
    lanesOpen s (x :: rest) = some (x.field.code, k) := by
  rw [lanesOpen, h]

theorem lanesOpen_eq_none {items : List ConfigItem}
    (h : ∀ x ∈ items, ∀ k, concerns s.profile x k = true → (s.lane k).current = .shut) : lanesOpen s items = none := by
  have hend := lanesOpen_append [] h
  rwa [List.append_nil] at hend

/-! ## What an accepted CONFIGURE stores -/

/-- A CONFIGURE to a profile is one cut of the open interval (R94, R174). -/
abbrev State.cutBy (s : State) (f : Profile) : Prop :=
  f.intervalMinutes ≠ s.profile.intervalMinutes ∨ f.rollover ≠ s.profile.rollover

/-- A CONFIGURE to a profile is a day change (R151, R174). -/
abbrev State.newDayBy (s : State) (f : Profile) : Prop :=
  f.rollover ≠ s.profile.rollover ∧ s.timebase.status ≠ .unset ∧
    operatingDay f.rollover s.timebase.time ≠ s.timebase.currentDay

/-- The count unit after a cut under the new values (R91, R94, R174). -/
def State.countCut (s : State) (f : Profile) : CountUnit :=
  if s.count.log.length < 96 then
    s.count.closedAt f s.timebase.time (boundaryAtOrBefore f.intervalMinutes f.rollover s.timebase.time) { cut := true }
  else s.count.heldAt f s.timebase.time { cut := true }

theorem closeCut_withProfile (s : State) (f : Profile) (trim : Int) :
    closeCut (withProfile s f trim) =
      { withProfile s f trim with
        count := s.countCut f
        postsInFlight := s.postsInFlight ++ [s.count.closingPost { cut := true }] } := by
  rw [closeCut, IntervalFlags.ofCut, closeInterval_eq]
  rfl

/-- What an accepted CONFIGURE leaves (R94, R104, R151, R174). -/
theorem storeProfile_eq (s : State) (f : Profile) (trim : Int) :
    storeProfile s f trim =
      { s with
        profile := f
        timebase :=
          { s.timebase with
            trim := trim
            currentDay := if s.newDayBy f then operatingDay f.rollover s.timebase.time else s.timebase.currentDay }
        lanes := (withProfile s f trim).lanes
        count := if s.cutBy f then s.countCut f else s.count
        refund := { s.refund with locked := if s.newDayBy f then false else s.refund.locked }
        postsInFlight :=
          s.postsInFlight ++ (if s.cutBy f then [s.count.closingPost { cut := true }] else []) ++
            (if s.newDayBy f then [.dayRollover (operatingDay f.rollover s.timebase.time)] else []) } := by
  obtain ⟨hi, hr, h⟩ | ⟨hi, hr, h⟩ | ⟨hr, h⟩ := storeProfile_cases s f trim
  · have hcut : ¬ s.cutBy f := by simp [State.cutBy, hi, hr]
    have hday : ¬ s.newDayBy f := by simp [State.newDayBy, hr]
    rw [h, if_neg hcut, if_neg hcut, if_neg hday, if_neg hday, if_neg hday, List.append_nil, List.append_nil]
    rfl
  · have hcut : s.cutBy f := .inl hi
    have hday : ¬ s.newDayBy f := by simp [State.newDayBy, hr]
    rw [h, if_pos hcut, if_pos hcut, if_neg hday, if_neg hday, if_neg hday, List.append_nil, closeCut_withProfile]
    rfl
  · have hcut : s.cutBy f := .inr hr
    rw [h, if_pos hcut, if_pos hcut, closeCut_withProfile]
    by_cases hday : s.newDayBy f
    · obtain ⟨-, hset, hne⟩ := hday
      rw [if_pos ⟨hr, hset, hne⟩, if_pos ⟨hr, hset, hne⟩, if_pos ⟨hr, hset, hne⟩]
      exact settleDay_of_due (dayDue_iff.mpr ⟨hset, hne⟩)
    · rw [if_neg hday, if_neg hday, if_neg hday, List.append_nil]
      refine settleDay_of_not_due fun hdue => hday ?_
      obtain ⟨hset, hne⟩ := dayDue_iff.mp hdue
      exact ⟨hr, hset, hne⟩

/-- A lane after an accepted CONFIGURE (R73, R80, R174). -/
theorem storeProfile_lane (s : State) (f : Profile) (trim : Int) (k : LaneId) :
    (storeProfile s f trim).lane k = enableLane s.profile.lanesEnabled f.lanesEnabled s.elapsed k.val (s.lane k) := by
  rw [storeProfile_frame]
  simp [State.lane]

theorem setPort_storeProfile (s : State) (p : Port) (ps : PortState) (f : Profile) (trim : Int) :
    storeProfile (s.setPort p ps) f trim = (storeProfile s f trim).setPort p ps := by
  rw [storeProfile_eq, storeProfile_eq]
  cases p <;> rfl

theorem setPort_lanesOpen (s : State) (p : Port) (ps : PortState) (items : List ConfigItem) :
    lanesOpen (s.setPort p ps) items = lanesOpen s items := by
  induction items with
  | nil => rfl
  | cons x rest ih =>
    have hlane : openLaneOf (s.setPort p ps) x = openLaneOf s x := by
      simp only [openLaneOf, setPort_profile, setPort_lane]
    rw [lanesOpen, lanesOpen, hlane, ih]

theorem setPort_configureBytes (s : State) (p : Port) (ps : PortState) (code lane : Nat) :
    configureBytes code lane (s.setPort p ps) = configureBytes code lane s := by
  rw [configureBytes, setPort_profile, setPort_timebase]
  rfl

theorem exec_configure_malformed {i : StationId} (tag : Byte) {body : List Byte} (hopen : Open s (.station i))
    (hbody : configureBody body = none) :
    exec (.configure (.station i) tag body) s =
      .next (s.answered (.station i) 0x60 tag .badArgument (configureBytes 0 0 s)) := by
  refine congrArg Host.Outcome.next (requestUnit_reported tag hopen rfl fun ps => ?_)
  simp only [serveConfigure, hbody, setPort_configureBytes]

theorem exec_configure_lanesOpen {i : StationId} (tag : Byte) {body : List Byte} {items : List ConfigItem} {code : Nat}
    {k : LaneId} (hopen : Open s (.station i)) (hbody : configureBody body = some items)
    (hlanes : lanesOpen s items = some (code, k)) :
    exec (.configure (.station i) tag body) s =
      .next (s.answered (.station i) 0x60 tag .lanesOpen (configureBytes code k.val s)) := by
  refine congrArg Host.Outcome.next (requestUnit_reported tag hopen rfl fun ps => ?_)
  simp only [serveConfigure, hbody, setPort_lanesOpen, hlanes, setPort_configureBytes]

theorem exec_configure_stored {i : StationId} (tag : Byte) {body : List Byte} {items : List ConfigItem}
    (hopen : Open s (.station i)) (hbody : configureBody body = some items) (hlanes : lanesOpen s items = none) {u : State}
    (hu : storeProfile s (s.profile.configured items) (configuredTrim s.timebase.trim items) = u) :
    exec (.configure (.station i) tag body) s =
      .next (u.answered (.station i) 0x60 tag .ok (configureBytes 0 0 u)) := by
  subst hu
  refine congrArg Host.Outcome.next (requestUnit_answered tag hopen rfl ?_ fun ps => ?_)
  · rw [storeProfile_frame]
    rfl
  · simp only [serveConfigure, hbody, setPort_lanesOpen, hlanes, setPort_profile, setPort_timebase, setPort_storeProfile,
      setPort_configureBytes]

theorem beginTaking_sensor (elapsed : Nat) (v : Sensor) :
    v.beginTaking elapsed = { v with stuck := if v.level then some { mark := elapsed, counted := false } else v.stuck } := by
  unfold Sensor.beginTaking
  split <;> rfl

theorem enableLane_of_stops {before after elapsed k : Nat} (l : Lane) (hbefore : k < before) (hafter : ¬ k < after) :
    enableLane before after elapsed k l = l.stopTaking :=
  if_pos ⟨hbefore, Nat.le_of_not_lt hafter⟩

theorem enableLane_of_begins {before after elapsed k : Nat} (l : Lane) (hbefore : ¬ k < before) (hafter : k < after) :
    enableLane before after elapsed k l = l.beginTaking elapsed := by
  rw [enableLane, if_neg (fun h => hbefore h.1), if_pos ⟨Nat.le_of_not_lt hbefore, hafter⟩]

theorem enableLane_of_same {before after elapsed k : Nat} (l : Lane) (h : k < before ↔ k < after) :
    enableLane before after elapsed k l = l := by
  rw [enableLane, if_neg (by omega), if_neg (by omega)]

/-- Settles O56: the bodies by `configureBody_iff`, and an accepted CONFIGURE by `storeProfile_eq`. -/
theorem configureStoresOrRefuses : Obligations.ConfigureStoresOrRefuses := by
  refine ⟨?_, ?_, fun f x k => concerns_iff f x k, ?_⟩
  · intro shape sendable spelled body items
    have hshape (f : ProfileField) : shape f = (f.code, f.index, f.width) := by cases f <;> rfl
    have hsendable (x : ConfigItem) : sendable x = x.sendable := by
      simp only [sendable, hshape]
      rfl
    have hspelled : spelled = ConfigItem.spelled := by
      funext x
      simp only [spelled, hshape]
      rfl
    simp only [hsendable, hspelled]
    exact configureBody_iff
  · intro f trim stored
    refine ⟨fun v => ?_, fun v => ⟨rfl, rfl, fun x hx => storeTrim_of_ne hx trim v⟩, raiseTimeout_of_le,
      fun hlt => ⟨_, raiseTimeout_of_lt hlt, by omega, fun m hm => by omega⟩⟩
    simp only [stored, Profile.store, clampRange_natCast, clampInterval_natCast, clampLift_natCast, clampMode_natCast,
      clampPolicy_natCast, Nat.zero_max, Int.toNat_natCast, implies_true, and_self]
  · intro s i tag body hopen sent report
    refine ⟨exec_configure_malformed tag hopen, fun items hbody => ⟨fun before x after k hitems hbefore hk hnot hlower => ?_, fun hshut => ?_⟩⟩
    · refine exec_configure_lanesOpen tag hopen hbody ?_
      rw [hitems, lanesOpen_append _ hbefore, lanesOpen_cons_of_some _ (openLaneOf_eq_some hk hnot hlower)]
    · have hexec := exec_configure_stored tag hopen hbody (lanesOpen_eq_none hshut) rfl
      have ht := storeProfile_eq s (s.profile.configured items) (configuredTrim s.timebase.trim items)
      refine ⟨_, hexec, congrArg State.profile ht, congrArg (fun u : State => u.timebase.trim) ht, fun k => ?_, ?_, ?_⟩
      · intro l found enabled stays
        rw [storeProfile_lane]
        have hstays : stays = (k.val < (s.profile.configured items).lanesEnabled) :=
          congrArg (fun u : State => k.val < u.profile.lanesEnabled) ht
        rw [hstays]
        refine ⟨enableLane_of_stops l, fun hnot hbegins => ?_, enableLane_of_same l⟩
        rw [enableLane_of_begins _ hnot hbegins, Lane.beginTaking, beginTaking_sensor, beginTaking_sensor]
      · rw [ht]
        intro hi hr
        have hcut : ¬ s.cutBy (s.profile.configured items) := not_or.mpr ⟨not_not.mpr hi, not_not.mpr hr⟩
        have hday : ¬ s.newDayBy (s.profile.configured items) := fun hday => hday.1 hr
        refine ⟨if_neg hcut, ?_, ?_⟩
        · dsimp only
          rw [if_neg hcut, if_neg hday, List.append_nil, List.append_nil]
        · dsimp only
          rw [if_neg hday]
      · rw [ht]
        intro cut d newDay
        refine ⟨fun hcut hroom => ?_, fun hcut hfull => ?_, rfl⟩
        · exact (if_pos hcut).trans (if_pos hroom)
        · exact (if_pos hcut).trans (if_neg (Nat.not_lt.mpr hfull))

end Sys2Proof.Machine
end

section
/-! PROOF. The admissions that the lanes' in-flight entries carry, and that an event of a lane loses none: what leaves the list is
handed over as a task (R21, R63, R70, R76). -/

namespace Sys2Proof.Machine

variable {c : Instr} {s₀ s t : State} {lc : LaneCtx} {l : Lane}

/-! ## The admissions of a lane -/

/-- The admission of a PASS entry (R63). -/
def Entry.admission (e : Entry) : Option Admission :=
  match e.kind with
  | .pass a => some a
  | .free => none

/-- The admissions of a lane's PASS entries, head first. -/
def Lane.admissions (l : Lane) : List Admission := l.inflight.filterMap Entry.admission

/-- An event hands over its tasks and keeps in the lane exactly the admissions given, those handed over first; no task of it is
left waiting (R21). -/
def LaneOut.carries (o : LaneOut) (as : List Admission) : Prop :=
  o.tasks.map Task.pass ++ o.lane.admissions = as ∧ ∀ t ∈ o.tasks, t.left = false

theorem LaneOut.carries_of_no_task {o : LaneOut} (htasks : o.tasks = []) (hlist : o.lane.inflight = l.inflight) :
    o.carries l.admissions := by
  unfold LaneOut.carries Lane.admissions
  rw [htasks, hlist]
  exact ⟨rfl, by simp⟩

theorem task_pass (e : Entry) (kind : TaskKind) : (e.task lc kind).map Task.pass = e.admission.toList := by
  unfold Entry.task Entry.admission
  cases e.kind <;> rfl

theorem task_not_left (e : Entry) (kind : TaskKind) : ∀ t ∈ e.task lc kind, t.left = false := by
  unfold Entry.task
  cases e.kind <;> simp

theorem admissions_of_cons {e : Entry} {rest : List Entry} (h : l.inflight = e :: rest) :
    l.admissions = e.admission.toList ++ rest.filterMap Entry.admission := by
  unfold Lane.admissions
  rw [h, List.filterMap_cons]
  cases e.admission <;> rfl

/-- A head that leaves hands over its admission, and what follows carries the rest. -/
theorem LaneOut.carries_cons {o : LaneOut} {as : List Admission} (e : Entry) (kind : TaskKind) {counts : List CountEvent}
    (h : o.carries as) :
    ({ o with tasks := e.task lc kind ++ o.tasks, counts := counts } : LaneOut).carries (e.admission.toList ++ as) := by
  obtain ⟨hpass, hleft⟩ := h
  refine ⟨?_, fun t ht => ?_⟩
  · rw [List.map_append, task_pass, List.append_assoc, hpass]
  · obtain ht | ht := List.mem_append.mp ht
    · exact task_not_left e kind t ht
    · exact hleft t ht

theorem settleHead_carries (es : List Entry) : (settleHead lc l es).carries (es.filterMap Entry.admission) := by
  induction es with
  | nil => exact ⟨rfl, by simp [settleHead]⟩
  | cons e rest ih =>
    have hcons : (e :: rest).filterMap Entry.admission = e.admission.toList ++ rest.filterMap Entry.admission := by
      rw [List.filterMap_cons]
      cases e.admission <;> rfl
    unfold settleHead
    split_ifs
    · exact ⟨rfl, by simp⟩
    · rw [hcons]
      exact LaneOut.carries_cons e .void ih
    · exact ⟨rfl, by simp⟩

theorem balkHead_carries : (balkHead lc l).carries l.admissions := by
  cases hl : l.inflight with
  | nil => exact LaneOut.carries_of_no_task (by simp [balkHead, hl]) (by simp [balkHead, hl])
  | cons e rest =>
    rw [admissions_of_cons hl, balkHead, hl]
    exact LaneOut.carries_cons e .void (settleHead_carries rest)

theorem completeHead_carries : (completeHead lc l).carries l.admissions := by
  cases hl : l.inflight with
  | nil => exact LaneOut.carries_of_no_task (by simp [completeHead, hl]) (by simp [completeHead, hl])
  | cons e rest =>
    rw [admissions_of_cons hl, completeHead, hl]
    exact LaneOut.carries_cons e .confirm (settleHead_carries rest)

/-- A new entry's admission comes last (R44, R63). -/
theorem joinEntry_carries (e : Entry) : (joinEntry lc l e).carries (l.admissions ++ e.admission.toList) := by
  unfold joinEntry
  split_ifs with hl
  · have hsettle := settleHead_carries (lc := lc) (l := l) [e]
    have hone : [e].filterMap Entry.admission = l.admissions ++ e.admission.toList := by
      rw [Lane.admissions, hl]
      cases he : e.admission <;> simp [he]
    rwa [hone] at hsettle
  · refine ⟨?_, by simp⟩
    simp only [List.map_nil, List.nil_append, Lane.admissions, List.filterMap_append]
    cases he : e.admission <;> simp [he]

theorem releaseHead_admissions : (releaseHead lc l).admissions = l.admissions := by
  unfold releaseHead Lane.admissions
  split
  · rename_i e rest hl
    split_ifs
    · rfl
    · rw [hl]
      rfl
  · rfl

theorem enterShut_carries : (enterShut lc l).carries l.admissions := by
  refine ⟨?_, fun t ht => ?_⟩
  · rw [enterShut, List.map_flatMap]
    simp only [task_pass]
    exact (List.append_nil _).trans (List.filterMap_eq_flatMap_toList ..).symm
  · obtain ⟨e, -, ht⟩ := List.mem_flatMap.mp ht
    exact task_not_left e .void t ht

theorem LaneOut.carries_withStatePost {o : LaneOut} {as : List Admission} (before : Lane) (h : o.carries as) :
    (withStatePost lc before o).carries as := by
  unfold LaneOut.carries
  rwa [withStatePost_tasks, withStatePost_lane]

theorem commandState_carries (target : LaneState) : (commandState lc l target).carries l.admissions := by
  refine LaneOut.carries_withStatePost l ?_
  split_ifs
  · exact LaneOut.carries_of_no_task rfl rfl
  · cases target with
    | shut => exact enterShut_carries
    | self => exact ⟨releaseHead_admissions, by simp [moveTo]⟩
    | observe => exact LaneOut.carries_of_no_task rfl rfl
    | attended => exact LaneOut.carries_of_no_task rfl rfl

theorem ackLane_carries : (ackLane lc l).carries l.admissions := by
  unfold ackLane
  dsimp only
  split_ifs
  · exact LaneOut.carries_of_no_task rfl rfl
  · exact LaneOut.carries_withStatePost l (LaneOut.carries_of_no_task rfl rfl)
  · exact LaneOut.carries_withStatePost l (LaneOut.carries_of_no_task rfl rfl)

theorem causeEvent_carries (cause : ErrorCause) : (causeEvent lc cause l).carries l.admissions :=
  LaneOut.carries_withStatePost l (LaneOut.carries_of_no_task rfl rfl)

theorem pairForward_carries : (pairForward lc l).carries l.admissions := by
  obtain ⟨hlane, htasks⟩ | ⟨-, h⟩ := pairForward_cases (lc := lc) (l := l)
  · exact LaneOut.carries_of_no_task htasks (by rw [hlane])
  · rw [h]
    exact completeHead_carries

/-- A second part of an event, after a first that hands over nothing and leaves the list. -/
theorem LaneOut.carries_andThen {o : LaneOut} {f : Lane → LaneOut} (htasks : o.tasks = [])
    (hlist : o.lane.inflight = l.inflight) (h : (f o.lane).carries o.lane.admissions) : (o.andThen f).carries l.admissions := by
  have hsame : o.lane.admissions = l.admissions := by rw [Lane.admissions, hlist]; rfl
  rw [← hsame]
  simpa only [LaneOut.andThen, LaneOut.carries, htasks, List.nil_append] using h

theorem risingEdge_carries (x : ArmSensor) : (risingEdge lc l x).carries l.admissions := by
  have hedge : (edgeLane lc l x).inflight = l.inflight := setSensor_inflight ..
  have hscore (n : Nat) : (setScore lc (edgeLane lc l x) n).lane.inflight = l.inflight := (setScore_inflight n).trans hedge
  obtain ⟨-, h⟩ | ⟨-, h⟩ | ⟨-, h⟩ | ⟨-, h⟩ := risingEdge_cases lc l x <;> rw [h]
  · exact LaneOut.carries_of_no_task rfl hedge
  · exact LaneOut.carries_of_no_task (setScore_tasks _) (hscore _)
  · exact LaneOut.carries_andThen (setScore_tasks _) (hscore _) pairForward_carries
  · exact LaneOut.carries_andThen (setScore_tasks _) (hscore _) (LaneOut.carries_of_no_task rfl rfl)

theorem stuckEvent_carries (x : ArmSensor) : (stuckEvent lc l x).carries l.admissions := by
  unfold stuckEvent
  split
  · exact LaneOut.carries_of_no_task rfl rfl
  · split_ifs
    · exact LaneOut.carries_of_no_task (setScore_tasks _) ((setScore_inflight _).trans (setSensor_inflight ..))
    · exact LaneOut.carries_of_no_task rfl rfl

theorem pulseEnd_inflight (mode : ReleaseMode) : (pulseEnd lc mode l).inflight = l.inflight := by
  unfold pulseEnd
  split
  · rfl
  · split
    · rfl
    · split_ifs <;> rfl

theorem endWindow_inflight : (endWindow lc l).inflight = l.inflight := by
  unfold endWindow
  split
  · rfl
  · split_ifs <;> rfl
  · split_ifs <;> rfl

/-- No event of a lane loses an admission or makes one (R21). -/
theorem LaneStep.carries {k : LaneId} {o : LaneOut} (h : LaneStep c s k o) : o.carries (s.lane k).admissions := by
  cases h with
  | command target _ _ _ => exact commandState_carries target
  | ack => exact ackLane_carries
  | go e _ => exact ⟨releaseHead_admissions, by simp⟩
  | deny e _ => exact balkHead_carries
  | free _ _ =>
    have hjoin := joinEntry_carries (lc := s.laneCtx k) (l := s.lane k) (newEntry (s.laneCtx k) .free)
    rwa [show (newEntry (s.laneCtx k) .free).admission = none from rfl, Option.toList_none, List.append_nil] at hjoin
  | timeout =>
    unfold timeoutEvent
    split_ifs
    · exact balkHead_carries
    · exact LaneOut.carries_of_no_task rfl rfl
  | pulse => exact LaneOut.carries_of_no_task rfl (pulseEnd_inflight _)
  | rising x _ => exact risingEdge_carries x
  | falling x => exact LaneOut.carries_of_no_task rfl (setSensor_inflight ..)
  | level x high => exact LaneOut.carries_of_no_task rfl (setSensor_inflight ..)
  | window => exact LaneOut.carries_of_no_task rfl endWindow_inflight
  | stuck x => exact stuckEvent_carries x
  | cause => exact causeEvent_carries _

theorem enableLane_admissions (before after elapsed k : Nat) (l : Lane) :
    (enableLane before after elapsed k l).admissions = l.admissions := by
  unfold enableLane
  split_ifs <;> rfl

theorem readyLane_admissions (enabled elapsed k : Nat) (l : Lane) : (readyLane enabled elapsed k l).admissions = l.admissions := by
  unfold readyLane
  split_ifs <;> rfl

/-! ## The admissions of all lanes and tasks -/

theorem passCount_eq (l : Lane) : l.passCount = l.admissions.length := by
  unfold Lane.passCount Lane.admissions
  induction l.inflight with
  | nil => rfl
  | cons e rest ih =>
    rw [List.countP_cons, ih, List.filterMap_cons, Entry.admission]
    cases e.kind <;> simp

theorem holds_countP (l : Lane) (serial day : Nat) :
    l.inflight.countP (Entry.holds serial day) = l.admissions.countP (Admission.holds serial day) := by
  unfold Lane.admissions
  induction l.inflight with
  | nil => rfl
  | cons e rest ih =>
    rw [List.countP_cons, ih, List.filterMap_cons, Entry.admission, Entry.holds]
    cases e.kind <;> simp [List.countP_cons]

theorem lanes_sum (s : State) (f : Lane → Nat) : (s.lanes.toList.map f).sum = ∑ k : LaneId, f (s.lane k) := by
  have hlist : s.lanes.toList = List.ofFn s.lane := List.ext_getElem (by simp) fun i _ _ => by
    rw [List.getElem_ofFn]
    rfl
  rw [hlist, List.map_ofFn, List.sum_ofFn]
  rfl

/-- The admissions of a kind in the lanes' lists and in the task queue. -/
def State.waiting (s : State) (p : Admission → Bool) : Nat :=
  ∑ k : LaneId, (s.lane k).admissions.countP p + s.engine.tasks.countP (fun t => p t.pass)

theorem passCount_sum (s : State) : (s.lanes.toList.map Lane.passCount).sum = ∑ k : LaneId, (s.lane k).admissions.countP (fun _ => true) := by
  rw [lanes_sum]
  simp only [passCount_eq, List.countP_true]

/-- What an event of a lane hands over or keeps takes the place of what the lane had. -/
theorem applyLane_waiting (k : LaneId) {o : LaneOut} {as : List Admission} (h : o.carries as) (p : Admission → Bool) :
    (s.applyLane k o).waiting p + (s.lane k).admissions.countP p = s.waiting p + as.countP p := by
  obtain ⟨hpass, -⟩ := h
  have hothers : ∑ j ∈ Finset.univ.erase k, ((s.applyLane k o).lane j).admissions.countP p =
      ∑ j ∈ Finset.univ.erase k, (s.lane j).admissions.countP p :=
    Finset.sum_congr rfl fun j hj => by rw [applyLane_lane, if_neg (Finset.ne_of_mem_erase hj)]
  have hself : ((s.applyLane k o).lane k).admissions = o.lane.admissions := by rw [applyLane_lane, if_pos rfl]
  have htasks : (s.applyLane k o).engine.tasks = s.engine.tasks ++ o.tasks := by simp
  have hcount : o.tasks.countP (fun t => p t.pass) + o.lane.admissions.countP p = as.countP p := by
    rw [← hpass, List.countP_append, List.countP_map]
    rfl
  unfold State.waiting
  rw [← Finset.add_sum_erase _ _ (Finset.mem_univ k), ← Finset.add_sum_erase _ _ (Finset.mem_univ k), hothers, hself, htasks,
    List.countP_append]
  omega

/-- An event of a lane keeps the admissions (R21). -/
theorem LaneStep.waiting {k : LaneId} {o : LaneOut} (h : LaneStep c s k o) (p : Admission → Bool) :
    (s.applyLane k o).waiting p = s.waiting p :=
  Nat.add_right_cancel (applyLane_waiting k h.carries p)

/-- A new entry adds its own admission (R44). -/
theorem joinEntry_waiting (k : LaneId) (e : Entry) (p : Admission → Bool) :
    (s.applyLane k (joinEntry (s.laneCtx k) (s.lane k) e)).waiting p = s.waiting p + e.admission.toList.countP p := by
  have hjoin := applyLane_waiting (s := s) k (joinEntry_carries (lc := s.laneCtx k) (l := s.lane k) e) p
  rw [List.countP_append] at hjoin
  omega

end Sys2Proof.Machine
end

section
/-! PROOF. Every command keeps the law of the table engine: the deferred list, what is left in place, and the number of tasks with
the PASS entries that can still make one (R21, R24 to R26). -/

namespace Sys2Proof.Machine

variable {c : Instr} {s₀ s t : State}

/-! ## Twelve admissions at most -/

theorem LaneLaw.admissions_length (h : LaneLaw s) (k : LaneId) : (s.lane k).admissions.length ≤ 2 :=
  (List.length_filterMap_le ..).trans (h k).1.1

/-- Without a task the lanes alone hold admissions, two each at most (R21, R63). -/
theorem LaneLaw.waiting_le (h : LaneLaw s) (htasks : s.engine.tasks = []) : s.waiting (fun _ => true) ≤ 12 := by
  unfold State.waiting
  rw [htasks]
  simp only [List.countP_true, List.countP_nil, Nat.add_zero]
  calc ∑ k : LaneId, (s.lane k).admissions.length ≤ ∑ _k : LaneId, 2 := Finset.sum_le_sum fun k _ => h.admissions_length k
    _ = 12 := rfl

/-- A lane with a free place leaves room for one admission more. -/
theorem LaneLaw.waiting_lt (h : LaneLaw s) (htasks : s.engine.tasks = []) {k : LaneId} (hroom : (s.lane k).inflight.length < 2) :
    s.waiting (fun _ => true) < 12 := by
  unfold State.waiting
  rw [htasks]
  simp only [List.countP_true, List.countP_nil, Nat.add_zero]
  calc ∑ j : LaneId, (s.lane j).admissions.length < ∑ _j : LaneId, 2 :=
        Finset.sum_lt_sum (fun j _ => h.admissions_length j)
          ⟨k, Finset.mem_univ k, (List.length_filterMap_le ..).trans_lt hroom⟩
    _ = 12 := rfl

/-! ## The law in parts -/

/-- What the engine's law says of the engine alone, beside the busy page. -/
abbrev Engine.lawful (e : Engine) (busy : Option Nat) : Prop :=
  e.deferred.length ≤ Config.deferredMax ∧
    (∀ w ∈ e.deferred, w.page.isSome = true ∧ (busy.isSome = true → w.page = busy)) ∧
    (busy = none → (∀ t ∈ e.tasks, t.left = false) ∧ ∀ r ∈ e.pendingSet, r.left = false)

/-- Under the lanes' law the engine's law bounds tasks and admissions together whether a task waits or not. -/
theorem engineLaw_iff (h : LaneLaw s) :
    EngineLaw s ↔ s.engine.lawful s.pageBusy ∧ s.waiting (fun _ => true) ≤ 12 := by
  have hcount : s.waiting (fun _ => true) = s.engine.tasks.length + (s.lanes.toList.map Lane.passCount).sum := by
    rw [passCount_sum, State.waiting, Nat.add_comm]
    exact congrArg (· + _) (congrFun List.countP_true _)
  unfold EngineLaw Engine.lawful
  rw [hcount]
  constructor
  · rintro ⟨hlen, hwork, hleft, hempty | hle⟩
    · exact ⟨⟨hlen, hwork, hleft⟩, hcount ▸ h.waiting_le hempty⟩
    · exact ⟨⟨hlen, hwork, hleft⟩, hle⟩
  · rintro ⟨⟨hlen, hwork, hleft⟩, hle⟩
    exact ⟨hlen, hwork, hleft, .inr hle⟩

/-! ## The engine's operations -/

variable {e : Engine} {busy : Option Nat}

theorem Engine.lawful.addTasks (h : e.lawful busy) {ts : List Task} (hts : ∀ t ∈ ts, t.left = false) :
    ({ e with tasks := e.tasks ++ ts } : Engine).lawful busy := by
  obtain ⟨hlen, hwork, hleft⟩ := h
  refine ⟨hlen, hwork, fun hbusy => ⟨fun t ht => ?_, (hleft hbusy).2⟩⟩
  exact (List.mem_append.mp ht).elim ((hleft hbusy).1 t) (hts t)

/-- Work that leaves the engine leaves its law. -/
theorem Engine.lawful.of_sublist {e' : Engine} (h : e.lawful busy) (htasks : e'.tasks ⊆ e.tasks)
    (hpending : e'.pendingSet ⊆ e.pendingSet) (hdeferred : e'.deferred.Sublist e.deferred) : e'.lawful busy := by
  obtain ⟨hlen, hwork, hleft⟩ := h
  refine ⟨hdeferred.length_le.trans hlen, fun w hw => hwork w (hdeferred.subset hw), fun hbusy => ?_⟩
  exact ⟨fun t ht => (hleft hbusy).1 t (htasks ht), fun r hr => (hleft hbusy).2 r (hpending hr)⟩

theorem dropTask_subset : e.dropTask.tasks ⊆ e.tasks := List.eraseP_subset

theorem Engine.lawful.dropTask (h : e.lawful busy) : e.dropTask.lawful busy :=
  h.of_sublist dropTask_subset (List.Subset.refl _) (.refl _)

/-- Work for the busy page joins the deferred list while it has room (R24). -/
theorem Engine.lawful.defer (h : e.lawful busy) {w : Work} (hpage : w.page.isSome = true) (hbusy : w.page = busy)
    (hroom : e.hasRoom = true) : (e.defer w).lawful busy := by
  obtain ⟨hlen, hwork, hleft⟩ := h
  refine ⟨?_, fun v hv => ?_, hleft⟩
  · rw [Engine.defer, List.length_append]
    exact of_decide_eq_true hroom
  · obtain hv | hv := List.mem_append.mp hv
    · exact hwork v hv
    · obtain rfl := List.mem_singleton.mp hv
      exact ⟨hpage, fun _ => hbusy⟩

/-- While a page is busy, work may be left in place (R24). -/
theorem Engine.lawful.of_busy {e' : Engine} (h : e.lawful busy) (hbusy : busy ≠ none) (hdeferred : e'.deferred = e.deferred) :
    e'.lawful busy := by
  obtain ⟨hlen, hwork, -⟩ := h
  unfold Engine.lawful
  rw [hdeferred]
  exact ⟨hlen, hwork, fun hnone => absurd hnone hbusy⟩

theorem mem_insertRequest {q r : Request} {rs : List Request} : q ∈ insertRequest r rs ↔ q = r ∨ q ∈ rs := by
  induction rs with
  | nil => simp [insertRequest]
  | cons x rest ih =>
    unfold insertRequest
    split_ifs
    · simp
    · simp only [List.mem_cons, ih]
      tauto

theorem Engine.lawful.enqueue (h : e.lawful busy) {r : Request} (hr : r.left = false) :
    ({ e with pendingSet := insertRequest r e.pendingSet } : Engine).lawful busy := by
  obtain ⟨hlen, hwork, hleft⟩ := h
  refine ⟨hlen, hwork, fun hbusy => ⟨(hleft hbusy).1, fun q hq => ?_⟩⟩
  obtain rfl | hq := mem_insertRequest.mp hq
  · exact hr
  · exact (hleft hbusy).2 q hq

/-- The end of a page write makes everything left in place eligible again (R24). -/
theorem Engine.lawful.unleave (h : e.lawful busy) : e.unleave.lawful none := by
  obtain ⟨hlen, hwork, -⟩ := h
  refine ⟨hlen, fun w hw => ⟨(hwork w hw).1, fun hnone => by simp at hnone⟩, fun _ => ⟨fun t ht => ?_, fun r hr => ?_⟩⟩
  · obtain ⟨q, -, rfl⟩ := List.mem_map.mp ht
    rfl
  · obtain ⟨q, -, rfl⟩ := List.mem_map.mp hr
    rfl

theorem meetsBusy_iff {page : Option Nat} : s.meetsBusy page = true ↔ page.isSome = true ∧ page = s.pageBusy := by
  unfold State.meetsBusy
  rw [Bool.and_eq_true, beq_iff_eq]

/-! ## What the commands leave -/

theorem serveFlag_pageBusy (s : State) (serial : Nat) (flag : Bool) : (serveFlag s serial flag).state.pageBusy = s.pageBusy := by
  have hentries (st : Staging) (f : List Staged → List Staged) : (st.mapEntries f).busyPage = st.busyPage := by
    cases st <;> rfl
  rw [pageBusy_eq, pageBusy_eq]
  unfold serveFlag
  dsimp only
  split
  · dsimp only
    split
    · exact hentries ..
    · rfl
  · rfl

theorem clearHeld_admissions_length (serial day : Nat) (l : Lane) :
    (l.clearHeld serial day).admissions.length = l.admissions.length := by
  have hsome (e : Entry) : (e.clearHeld serial day).admission.isSome = e.admission.isSome := by
    obtain ⟨kind, at', mark, timeout, release⟩ := e
    cases kind with
    | pass a =>
      simp only [Entry.clearHeld]
      split_ifs <;> rfl
    | free => rfl
  unfold Lane.admissions Lane.clearHeld
  rw [List.length_filterMap_eq_countP, List.length_filterMap_eq_countP, List.countP_map]
  exact List.countP_congr fun e _ => by simp [hsome]

/-- What leaves no more admissions in a lane and no more tasks keeps the bound of 12. -/
theorem waiting_le_of (h : s.waiting (fun _ => true) ≤ 12)
    (hlanes : ∀ k, (t.lane k).admissions.length = (s.lane k).admissions.length)
    (htasks : t.engine.tasks.length ≤ s.engine.tasks.length) : t.waiting (fun _ => true) ≤ 12 := by
  refine le_trans ?_ h
  unfold State.waiting
  simp only [List.countP_true, hlanes]
  exact Nat.add_le_add_left (by simpa using htasks) _

theorem serveTask_admissions_length (s : State) (task : Task) (k : LaneId) :
    ((serveTask s task).lane k).admissions.length = (s.lane k).admissions.length := by
  obtain h | ⟨serial, day, h⟩ := serveTask_lane s task k <;> rw [h]
  exact clearHeld_admissions_length ..

theorem serveTask_engine (s : State) (task : Task) : (serveTask s task).engine = s.engine := by rw [serveTask_frame]

theorem serveTask_pageBusy (s : State) (task : Task) : (serveTask s task).pageBusy = s.pageBusy := by
  rw [serveTask_frame]
  rfl

theorem length_leaveTask (ts : List Task) : (leaveTask ts).length = ts.length := by
  induction ts with
  | nil => rfl
  | cons t rest ih =>
    unfold leaveTask
    split_ifs <;> simp [ih]

/-- The law of the engine under the law of the lanes: `engineLaw_iff`. -/
abbrev EngineHolds (s : State) : Prop := s.engine.lawful s.pageBusy ∧ s.waiting (fun _ => true) ≤ 12

theorem EngineHolds.of_same (hs : EngineHolds s) (hengine : t.engine = s.engine) (hbusy : t.pageBusy = s.pageBusy)
    (hlanes : ∀ k, (t.lane k).admissions.length = (s.lane k).admissions.length) : EngineHolds t :=
  ⟨by rw [hengine, hbusy]; exact hs.1, waiting_le_of hs.2 hlanes (by rw [hengine])⟩

theorem EngineHolds.serveTask {u : State} (hu : EngineHolds u) (task : Task) : EngineHolds (serveTask u task) :=
  hu.of_same (serveTask_engine u task) (serveTask_pageBusy u task) (serveTask_admissions_length u task)

/-- What changes the engine alone. -/
theorem EngineHolds.withEngine (hs : EngineHolds s) {e : Engine} (he : e.lawful s.pageBusy)
    (htasks : e.tasks.length ≤ s.engine.tasks.length) : EngineHolds { s with engine := e } :=
  ⟨he, waiting_le_of hs.2 (fun _ => rfl) htasks⟩

theorem EngineHolds.dropTask (hs : EngineHolds s) : EngineHolds { s with engine := s.engine.dropTask } :=
  hs.withEngine hs.1.dropTask (List.eraseP_sublist.length_le)

theorem EngineHolds.applyLane {k : LaneId} {o : LaneOut} {as : List Admission} (hs : EngineHolds s) (ho : o.carries as)
    (hcount : (s.applyLane k o).waiting (fun _ => true) ≤ 12) : EngineHolds (s.applyLane k o) :=
  ⟨hs.1.addTasks ho.2, hcount⟩

theorem Effect.engineHolds (h : Effect c s₀ s t) (h₀ : EngineLaw s₀) (hlanes : LaneLaw s) (hs : EngineHolds s) :
    EngineHolds t := by
  cases h
  case lane k o h => exact hs.applyLane h.carries ((h.waiting _).trans_le hs.2)
  case admitHeld k serial r consumed hstate hroom hrec hv hbusy htasks =>
    refine EngineHolds.applyLane (s := s.setRecord serial fun q => q.withUsage (r.usage.admitHeld (s.admitCtx k)))
      hs (joinEntry_carries _) ?_
    have hjoin := joinEntry_waiting (s := s.setRecord serial fun q => q.withUsage (r.usage.admitHeld (s.admitCtx k))) k
      (newEntry (s.laneCtx k) (.pass (admissionOf (s.admitCtx k) r))) (fun _ => true)
    exact hjoin.trans_le (hlanes.waiting_lt (htasks h₀) hroom)
  case flag serial flag =>
    exact hs.of_same (by rw [serveFlag_frame]) (serveFlag_pageBusy ..) (fun k => by rw [serveFlag_frame]; rfl)
  case opened i page hstaging hpage hready => exact hs.of_same rfl (by simp [State.pageBusy, hstaging]) (fun _ => rfl)
  case put b mark e hstaging _ _ _ => exact hs.of_same rfl (by simp [State.pageBusy, hstaging, State.restage]) (fun _ => rfl)
  case drop b mark serial hstaging => exact hs.of_same rfl (by simp [State.pageBusy, hstaging, State.restage]) (fun _ => rfl)
  case touched b mark mark' hstaging => exact hs.of_same rfl (by simp [State.pageBusy, hstaging]) (fun _ => rfl)
  case abandoned b mark hstaging => exact hs.of_same rfl (by simp [State.pageBusy, hstaging, State.post, State.postAll]) (fun _ => rfl)
  case reference => exact hs.of_same (by rw [applyReference_frame]) (by rw [applyReference_frame]; rfl) (fun k => by rw [applyReference_frame]; rfl)
  case configured =>
    rw [storeProfile_frame]
    exact hs.of_same rfl rfl (fun k => by simp [State.lane, enableLane_admissions])
  case boundary => exact hs.of_same (by rw [closeAtBoundary, closeInterval_frame]) (by rw [closeAtBoundary, closeInterval_frame]; rfl) (fun k => by rw [closeAtBoundary, closeInterval_frame]; rfl)
  case settled => exact hs.of_same (settleDay_engine s) (settleDay_pageBusy s) (fun k => by rw [settleDay_frame]; rfl)
  case ready => exact hs.of_same rfl rfl (fun k => by simp [becomeReady, State.lane, readyLane_admissions])
  case taskServed task _ _ => exact hs.dropTask.serveTask task
  case deferredTaskServed task rest hd hfree =>
    refine EngineHolds.serveTask (EngineHolds.withEngine (e := { s.engine with deferred := rest }) hs ?_ (Nat.le_refl _)) task
    exact hs.1.of_sublist (List.Subset.refl _) (List.Subset.refl _) (by rw [hd]; exact List.sublist_cons_self ..)
  case taskDeferred task hnext hbusy hroom =>
    obtain ⟨hsome, heq⟩ := meetsBusy_iff.mp hbusy
    exact hs.withEngine (hs.1.dropTask.defer hsome heq hroom) List.eraseP_sublist.length_le
  case taskLeft hbusy => exact hs.withEngine (hs.1.of_busy hbusy rfl) (length_leaveTask _).le
  case requestLeft p hbusy => exact hs.withEngine (hs.1.of_busy hbusy rfl) (Nat.le_refl _)
  all_goals exact hs.of_same rfl rfl (fun _ => rfl)

theorem EngineHolds.unleave {st : Staging} {records : List PassRecord} (hs : EngineHolds s) (hfree : st.busyPage = none) :
    EngineHolds { s with store := records, staging := st, engine := s.engine.unleave } := by
  refine ⟨?_, waiting_le_of hs.2 (fun _ => rfl) (by simp [Engine.unleave])⟩
  have hnone : ({ s with store := records, staging := st, engine := s.engine.unleave } : State).pageBusy = none :=
    (pageBusy_eq _).trans hfree
  rw [hnone]
  exact hs.1.unleave

theorem Move.engineHolds (h : Move c s₀ s t) (h₀ : EngineLaw s₀) (hlanes : LaneLaw s) (hs : EngineHolds s) :
    EngineHolds t := by
  have hlanes' := h.laneLaw hlanes
  cases h
  case effect h => exact h.engineHolds h₀ hlanes hs
  case port p ps => cases p <;> exact hs
  case enqueued r hleft _ => exact ⟨hs.1.enqueue hleft, hs.2⟩
  case requestTaken p =>
    exact hs.withEngine (hs.1.of_sublist (List.Subset.refl _) (List.filter_subset_self _) (.refl _)) (Nat.le_refl _)
  case requestDeferred r op hop hbusy hroom =>
    obtain ⟨hsome, heq⟩ := meetsBusy_iff.mp hbusy
    have hpage : (Work.request r).page = op.needs := by simp [Work.page, hop]
    refine hs.withEngine (Engine.lawful.defer ?_ (hpage ▸ hsome) (hpage ▸ heq) hroom) (Nat.le_refl _)
    exact hs.1.of_sublist (List.Subset.refl _) (List.filter_subset_self _) (.refl _)
  case deferredTaken r rest hd =>
    refine hs.withEngine ?_ (Nat.le_refl _)
    exact hs.1.of_sublist (List.Subset.refl _) (List.Subset.refl _) (by rw [hd]; exact List.sublist_cons_self ..)
  case withdrawn p =>
    exact hs.withEngine (hs.1.of_sublist (List.Subset.refl _) (List.filter_subset_self _) List.filter_sublist) (Nat.le_refl _)
  case begun b mark hstaging _ _ hwork =>
    obtain ⟨hdeferred, -⟩ := hwork h₀
    refine ⟨⟨?_, ?_, fun hnone => ?_⟩, hs.2⟩
    · exact hs.1.1
    · simp [beginWrite, hdeferred]
    · simp [beginWrite, State.pageBusy] at hnone
  case written b w hstaging => exact hs.unleave rfl
  case writeFailed b w hstaging => exact hs.unleave (by split <;> rfl)
  case stagingReset i =>
    exact hs.of_same rfl (by rw [pageBusy_eq, pageBusy_eq]; exact Staging.busyPage_portReset ..) (fun _ => rfl)
  case reset =>
    have hengine : (deviceReset s).engine = Engine.reset := by rw [deviceReset_frame]; rfl
    refine ⟨?_, hlanes'.waiting_le (by rw [hengine]; rfl)⟩
    rw [hengine]
    exact ⟨by simp [Engine.reset], by simp [Engine.reset], fun _ => by simp [Engine.reset]⟩
  all_goals exact hs

theorem Move.engineLaw (h : Move c s₀ s t) (h₀ : EngineLaw s₀) (hlanes : LaneLaw s) (hs : EngineLaw s) : EngineLaw t :=
  (engineLaw_iff (h.laneLaw hlanes)).mpr (h.engineHolds h₀ hlanes ((engineLaw_iff hlanes).mp hs))

/-- An invariant that does not look at the queue is kept by every step, when every move keeps it from a state that meets it and
for a command that came in such a state. -/
theorem step_keeps_from {P : State → Prop} (hqueue : ∀ s rest, P s → P { s with pending := rest })
    (hmove : ∀ c s₀ s t, P s₀ → P s → Move c s₀ s t → P t) {s t : State} (hs : P s) (h : step s = .next t) : P t := by
  obtain rfl | ⟨c, rest, -, hexec⟩ := step_cases h
  · exact hs
  · have hs₀ := hqueue s rest hs
    exact (exec_moves c hexec).keeps (fun _ _ => hmove c _ _ _ hs₀) hs₀

/-- Settles O18: under the lanes' law every move keeps the law of the engine. -/
theorem engineLawIsKept : Obligations.EngineLawIsKept := by
  intro s t hlanes hs h
  refine (step_keeps_from (P := fun u => LaneLaw u ∧ EngineLaw u) (fun _ _ hu => hu) ?_ ⟨hlanes, hs⟩ h).2
  rintro c s₀ u v ⟨-, h₀⟩ ⟨hl, he⟩ hm
  exact ⟨hm.laneLaw hl, hm.engineLaw h₀ hl he⟩

end Sys2Proof.Machine
end

section
/-! PROOF. The used-day list's operations by the days they leave, and the soundness of a record under each (R4 to R9, R114). -/

namespace Sys2Proof.Machine

/-! ## The days of a list -/

/-- The days of a used-day list, in its order (R4). -/
def usedDays (used : List UsedDay) : List Nat := used.map UsedDay.day

@[simp] theorem usedDays_length (used : List UsedDay) : (usedDays used).length = used.length := List.length_map ..

@[simp] theorem usedDays_setDay (used : List UsedDay) (day : Nat) (st : DayState) : usedDays (setDay used day st) = usedDays used := by
  unfold usedDays setDay
  rw [List.map_map]
  refine List.map_congr_left fun u _ => ?_
  dsimp only [Function.comp]
  split <;> rfl

@[simp] theorem usedDays_confirmAll (used : List UsedDay) : usedDays (confirmAll used) = usedDays used := by
  simp [usedDays, confirmAll]

theorem usedDays_removeDay (used : List UsedDay) (day : Nat) : (usedDays (removeDay used day)).Sublist (usedDays used) :=
  List.filter_sublist.map _

theorem usedDays_confirmDay (used : List UsedDay) (day : Nat) : usedDays (confirmDay used day) = usedDays used := by
  unfold confirmDay
  split
  · exact usedDays_setDay ..
  · rfl
  · rfl

theorem usedDays_voidDay (used : List UsedDay) (day : Nat) : (usedDays (voidDay used day)).Sublist (usedDays used) := by
  unfold voidDay
  split
  · split
    · exact usedDays_removeDay ..
    · rw [usedDays_setDay]
  · exact .refl _
  · exact .refl _

theorem dayState_eq_none_iff {used : List UsedDay} {day : Nat} : dayState used day = none ↔ ∀ u ∈ used, u.day ≠ day := by
  simp [dayState]

/-- A day already in the list stays there, in whatever state (R5). -/
theorem usedDays_useDayHeld_of_used {used : List UsedDay} {day : Nat} (h : (dayState used day).isSome = true) :
    usedDays (useDayHeld used day) = usedDays used := by
  unfold useDayHeld
  split
  · rename_i hnone
    simp [hnone] at h
  · exact usedDays_setDay ..
  · rfl

theorem useDayHeld_of_not_used {used : List UsedDay} {day : Nat} (h : dayState used day = none) :
    useDayHeld used day = insertDay { day := day, state := .provisional 1 } used := by
  rw [useDayHeld, h]

/-! ## Sound records -/

theorem PassRecord.sound_iff (r : PassRecord) :
    r.sound ↔ (usedDays r.usage.used).Pairwise (· < ·) ∧
      (∀ d ∈ usedDays r.usage.used, r.ent.firstDay ≤ d ∧ d ≤ r.ent.lastDay) ∧
      (usedDays r.usage.used).length + r.usage.refundedDays ≤ r.ent.rideDays ∧ r.usage.refundedTotal ≤ r.ent.paid := by
  rw [usedDays_length, usedDays, List.pairwise_map, List.forall_mem_map]

/-- A record stays sound when days leave its list or change their state alone. -/
theorem PassRecord.sound.of_days {r : PassRecord} (h : r.sound) {u : Usage}
    (hdays : (usedDays u.used).Sublist (usedDays r.usage.used)) (hrefunded : u.refundedDays = r.usage.refundedDays)
    (htotal : u.refundedTotal = r.usage.refundedTotal) : (r.withUsage u).sound := by
  obtain ⟨hsorted, hwindow, hlen, hpaid⟩ := r.sound_iff.mp h
  refine (PassRecord.sound_iff _).mpr ⟨hsorted.sublist hdays, fun d hd => hwindow d (hdays.subset hd), ?_, htotal ▸ hpaid⟩
  exact hrefunded ▸ (Nat.add_le_add_right hdays.length_le _).trans hlen

/-- A record stays sound when a day of its window is consumed of what it has left (R5, R41). -/
theorem PassRecord.sound.insertDay {r : PassRecord} (h : r.sound) {u : Usage} {v : UsedDay}
    (hused : u.used = insertDay v r.usage.used) (hnew : dayState r.usage.used v.day = none)
    (hfirst : r.ent.firstDay ≤ v.day) (hlast : v.day ≤ r.ent.lastDay) (hleft : r.remaining ≠ 0)
    (hrefunded : u.refundedDays = r.usage.refundedDays) (htotal : u.refundedTotal = r.usage.refundedTotal) :
    (r.withUsage u).sound := by
  obtain ⟨hsorted, hwindow, hlen, hpaid⟩ := h
  have hperm := insertDay_perm v r.usage.used
  refine ⟨?_, fun x hx => ?_, ?_, htotal ▸ hpaid⟩
  · rw [PassRecord.withUsage, hused]
    exact insertDay_pairwise_day hsorted (dayState_eq_none_iff.mp hnew)
  · rw [PassRecord.withUsage, hused] at hx
    obtain rfl | hx := List.mem_cons.mp (hperm.mem_iff.mpr hx)
    · exact ⟨hfirst, hlast⟩
    · exact hwindow x hx
  · have hlength : u.used.length = r.usage.used.length + 1 := by rw [hused, ← hperm.length_eq, List.length_cons]
    unfold PassRecord.remaining at hleft
    simp only [PassRecord.withUsage, hlength, hrefunded]
    omega

theorem PassRecord.sound.setBlocked {r : PassRecord} (h : r.sound) (flag : Bool) : (r.setBlocked flag).sound := h

theorem PassRecord.sound.scan {r : PassRecord} (h : r.sound) : r.scan.sound :=
  h.of_days (by rw [usedDays_confirmAll]) rfl rfl

theorem PassRecord.sound.confirm {r : PassRecord} (h : r.sound) (day : Nat) :
    (r.withUsage { r.usage with used := confirmDay r.usage.used day }).sound :=
  h.of_days (by rw [usedDays_confirmDay]) rfl rfl

theorem PassRecord.sound.void {r : PassRecord} (h : r.sound) (a : Admission) : (r.withUsage (r.usage.void a)).sound := by
  have hrest (u : Usage) (hu : u.used = r.usage.used ∧ u.refundedDays = r.usage.refundedDays ∧
      u.refundedTotal = r.usage.refundedTotal) :
      (r.withUsage (match a.heldDay with
        | none => u
        | some d => { u with used := voidDay u.used d })).sound := by
    obtain ⟨hused, hdays, htotal⟩ := hu
    split
    · exact h.of_days (by rw [hused]) hdays htotal
    · exact h.of_days (by rw [hused]; exact usedDays_voidDay ..) hdays htotal
  unfold Usage.void
  dsimp only
  split_ifs <;> exact hrest _ ⟨rfl, rfl, rfl⟩

/-- What a record that is not refused says of the day (R36 to R42). -/
theorem verdict_admitted {c : AdmitCtx} {r : PassRecord} {consumed : Bool}
    (h : verdict c (some r) = if consumed then .consume else .reride) :
    r.ent.firstDay ≤ c.day ∧ c.day ≤ r.ent.lastDay ∧
      ((consumed = false ∧ (dayState r.usage.used c.day).isSome = true) ∨
        (consumed = true ∧ dayState r.usage.used c.day = none ∧ r.remaining ≠ 0)) := by
  cases consumed
  · replace h : verdict c (some r) = .reride := h
    rw [verdict] at h
    split_ifs at h with hblocked hearly hlate hzone hhours hpassback hused
    exact ⟨Nat.le_of_not_lt hearly, Nat.le_of_not_lt hlate, .inl ⟨rfl, hused⟩⟩
  · replace h : verdict c (some r) = .consume := h
    rw [verdict] at h
    split_ifs at h with hblocked hearly hlate hzone hhours hpassback hused hremaining
    exact ⟨Nat.le_of_not_lt hearly, Nat.le_of_not_lt hlate, .inr ⟨rfl, Option.not_isSome_iff_eq_none.mp hused, hremaining⟩⟩

theorem PassRecord.sound.admitHeld {r : PassRecord} {c : AdmitCtx} {consumed : Bool} (h : r.sound)
    (hv : verdict c (some r) = if consumed then .consume else .reride) : (r.withUsage (r.usage.admitHeld c)).sound := by
  obtain ⟨hfirst, hlast, ⟨-, hused⟩ | ⟨-, hnew, hleft⟩⟩ := verdict_admitted hv
  · exact h.of_days (by rw [Usage.admitHeld, usedDays_useDayHeld_of_used hused]) rfl rfl
  · exact h.insertDay (useDayHeld_of_not_used hnew) hnew hfirst hlast hleft rfl rfl

theorem PassRecord.sound.admitSettled {r : PassRecord} {c : AdmitCtx} {consumed : Bool} (h : r.sound)
    (hv : verdict c (some r) = if consumed then .consume else .reride) : (r.withUsage (r.usage.admitSettled c)).sound := by
  obtain ⟨hfirst, hlast, ⟨-, hused⟩ | ⟨-, hnew, hleft⟩⟩ := verdict_admitted hv
  · exact h.of_days (by rw [Usage.admitSettled, useDaySettled_of_used hused]) rfl rfl
  · exact h.insertDay (useDaySettled_of_not_used (by simp [hnew])) hnew hfirst hlast hleft rfl rfl

/-- A refund of what the stages grant stays within what was paid (R108, R110, R114). -/
theorem PassRecord.sound.refund {r : PassRecord} (h : r.sound) (c : TariffClass) {j : Nat} (hj : j ≤ r.remaining) :
    (r.refund j (figuresFor c r j).amount).sound := by
  obtain ⟨hsorted, hwindow, hlen, hpaid⟩ := h
  refine ⟨hsorted, hwindow, ?_, ?_⟩
  · unfold PassRecord.remaining at hj
    change r.usage.used.length + (r.usage.refundedDays + j) ≤ r.ent.rideDays
    omega
  · have hgross : r.usage.refundedTotal + grossRefund c r j ≤ r.ent.paid := by
      unfold grossRefund
      omega
    have hamount : (figuresFor c r j).amount ≤ grossRefund c r j :=
      (amount_le_net c r j).trans ((Nat.min_le_left _ _).trans (Nat.sub_le _ _))
    exact (Nat.add_le_add_left hamount _).trans hgross

end Sys2Proof.Machine
end

section
/-! PROOF. Putting a record or a staged entry at its place in serial order, and replacing a page whole (R10, R13, R125). -/

namespace Sys2Proof.Machine

/-! ## Staged entries -/

/-- The staged entries stand in strictly ascending serial order (R125). -/
abbrev Staged.sorted (es : List Staged) : Prop := es.Pairwise (fun x y => x.ent.serial < y.ent.serial)

theorem filter_serial_ne_of_lt {e : Staged} {es : List Staged} (h : ∀ q ∈ es, e.ent.serial < q.ent.serial) :
    es.filter (fun q => q.ent.serial != e.ent.serial) = es :=
  List.filter_eq_self.mpr fun q hq => by simpa using (h q hq).ne'

/-- A staged entry goes between the entries of lower and of higher serials, in place of one of its own (R125). -/
theorem insertStaged_split (e : Staged) {es : List Staged} (h : Staged.sorted es) :
    ∃ before after, insertStaged e es = before ++ e :: after ∧ (∀ q ∈ before, q.ent.serial < e.ent.serial) ∧
      (∀ q ∈ after, e.ent.serial < q.ent.serial) ∧ before ++ after = es.filter (fun q => q.ent.serial != e.ent.serial) := by
  induction es with
  | nil => exact ⟨[], [], rfl, by simp, by simp, rfl⟩
  | cons q rest ih =>
    obtain ⟨hq, hrest⟩ := List.pairwise_cons.mp h
    unfold insertStaged
    split_ifs with hlt heq
    · have hall : ∀ x ∈ q :: rest, e.ent.serial < x.ent.serial :=
        List.forall_mem_cons.mpr ⟨hlt, fun x hx => hlt.trans (hq x hx)⟩
      exact ⟨[], q :: rest, rfl, by simp, hall, (filter_serial_ne_of_lt hall).symm⟩
    · have hall : ∀ x ∈ rest, e.ent.serial < x.ent.serial := fun x hx => heq ▸ hq x hx
      refine ⟨[], rest, rfl, by simp, hall, ?_⟩
      rw [List.filter_cons_of_neg (by simp [heq]), filter_serial_ne_of_lt hall]
      rfl
    · obtain ⟨before, after, hsplit, hlow, hhigh, hothers⟩ := ih hrest
      have hqlt : q.ent.serial < e.ent.serial := by omega
      refine ⟨q :: before, after, by rw [hsplit]; rfl, List.forall_mem_cons.mpr ⟨hqlt, hlow⟩, hhigh, ?_⟩
      rw [List.filter_cons_of_pos (by simpa using hqlt.ne), ← hothers]
      rfl

theorem insertStaged_sorted (e : Staged) {es : List Staged} (h : Staged.sorted es) : Staged.sorted (insertStaged e es) := by
  obtain ⟨before, after, hsplit, hlow, hhigh, hothers⟩ := insertStaged_split e h
  have hfiltered : Staged.sorted (before ++ after) := hothers ▸ h.filter _
  obtain ⟨hbefore, hafter, -⟩ := List.pairwise_append.mp hfiltered
  rw [hsplit]
  refine List.pairwise_append.mpr ⟨hbefore, List.pairwise_cons.mpr ⟨hhigh, hafter⟩, fun x hx y hy => ?_⟩
  obtain rfl | hy := List.mem_cons.mp hy
  · exact hlow x hx
  · exact (hlow x hx).trans (hhigh y hy)

theorem mem_insertStaged {e x : Staged} {es : List Staged} (h : Staged.sorted es) :
    x ∈ insertStaged e es ↔ x = e ∨ (x ∈ es ∧ x.ent.serial ≠ e.ent.serial) := by
  obtain ⟨before, after, hsplit, -, -, hothers⟩ := insertStaged_split e h
  have hmem : x ∈ before ++ after ↔ x ∈ es ∧ x.ent.serial ≠ e.ent.serial := by simp [hothers]
  rw [hsplit, ← hmem]
  simp only [List.mem_append, List.mem_cons]
  tauto

theorem holdsSerial_iff {es : List Staged} {serial : Nat} : holdsSerial es serial = true ↔ ∃ e ∈ es, e.ent.serial = serial := by
  simp [holdsSerial]

/-- An entry that replaces one adds none, and any other adds one (R125). -/
theorem length_insertStaged_le {e : Staged} {es : List Staged} {n : Nat} (h : Staged.sorted es) (hlen : es.length ≤ n)
    (hroom : holdsSerial es e.ent.serial = true ∨ es.length < n) : (insertStaged e es).length ≤ n := by
  obtain ⟨before, after, hsplit, -, -, hothers⟩ := insertStaged_split e h
  have hlength : (insertStaged e es).length = (es.filter (fun q => q.ent.serial != e.ent.serial)).length + 1 := by
    rw [hsplit, ← hothers]
    simp only [List.length_append, List.length_cons]
    omega
  rw [hlength]
  obtain hheld | hroom := hroom
  · obtain ⟨q, hq, hserial⟩ := holdsSerial_iff.mp hheld
    exact (List.length_filter_lt_length_iff_exists.mpr ⟨q, hq, by simp [hserial]⟩).trans_le hlen
  · exact (Nat.succ_le_succ (List.length_filter_le ..)).trans hroom

/-! ## Records -/

/-- The store with a record put in: the record, and the others but one of its serial (R10). -/
theorem mem_insertRecord {r x : PassRecord} {store : List PassRecord} (h : ascending store = true) :
    x ∈ insertRecord r store ↔ x = r ∨ (x ∈ store ∧ x.ent.serial ≠ r.ent.serial) := by
  rw [ascending_iff] at h
  induction store with
  | nil => simp [insertRecord]
  | cons q rest ih =>
    obtain ⟨hq, hrest⟩ := List.pairwise_cons.mp h
    unfold insertRecord
    split_ifs with hlt heq
    · have hall (hx : x ∈ q :: rest) : x.ent.serial ≠ r.ent.serial := by
        obtain rfl | hx := List.mem_cons.mp hx
        · exact hlt.ne'
        · exact (hlt.trans (hq x hx)).ne'
      rw [List.mem_cons]
      tauto
    · have hall (hx : x ∈ rest) : x.ent.serial ≠ r.ent.serial := heq ▸ (hq x hx).ne'
      have hself : x = q → ¬ x.ent.serial ≠ r.ent.serial := by
        rintro rfl
        simp [heq]
      simp only [List.mem_cons]
      tauto
    · have hself : x = q → x.ent.serial ≠ r.ent.serial := by
        rintro rfl
        omega
      rw [List.mem_cons, ih hrest, List.mem_cons]
      tauto

/-- Records of one page in serial order, as a page write holds them (R10, R133). -/
structure IsPage (page : Nat) (records : List PassRecord) : Prop where
  sorted : records.Pairwise (fun a b => a.ent.serial < b.ent.serial)
  home : ∀ r ∈ records, homePage r.ent.serial = page

theorem mem_replacePage {store records : List PassRecord} {page : Nat} (h : ascending store = true) (hrecords : IsPage page records)
    {x : PassRecord} : x ∈ replacePage store page records ↔ x ∈ records ∨ (x ∈ store ∧ homePage x.ent.serial ≠ page) := by
  obtain ⟨hsorted, hhome⟩ := hrecords
  induction records with
  | nil => simp [replacePage]
  | cons r rest ih =>
    obtain ⟨hr, hrest⟩ := List.pairwise_cons.mp hsorted
    obtain ⟨hpage, hhome⟩ := List.forall_mem_cons.mp hhome
    have hne : x ∈ rest → x.ent.serial ≠ r.ent.serial := fun hx => (hr x hx).ne'
    have hother : homePage x.ent.serial ≠ page → x.ent.serial ≠ r.ent.serial := fun hx heq => hx (heq ▸ hpage)
    have hstep : replacePage store page (r :: rest) = insertRecord r (replacePage store page rest) := rfl
    rw [hstep, mem_insertRecord (ascending_replacePage page rest h), ih hrest hhome, List.mem_cons]
    tauto

/-- Two lists in strictly ascending serial order with the same records are the same list. -/
theorem eq_of_ascending {as bs : List PassRecord} (ha : as.Pairwise (fun a b => a.ent.serial < b.ent.serial))
    (hb : bs.Pairwise (fun a b => a.ent.serial < b.ent.serial)) (h : ∀ x, x ∈ as ↔ x ∈ bs) : as = bs := by
  have hperm : as.Perm bs := (List.perm_ext_iff_of_nodup (ha.imp fun hlt heq => by simp [heq] at hlt)
    (hb.imp fun hlt heq => by simp [heq] at hlt)).mpr h
  exact hperm.eq_of_pairwise (fun a b _ _ hab hba => absurd hab hba.asymm) ha hb

theorem pageRecords_sorted {store : List PassRecord} (h : ascending store = true) (page : Nat) :
    (pageRecords store page).Pairwise (fun a b => a.ent.serial < b.ent.serial) :=
  ((ascending_iff store).mp h).filter _

theorem mem_pageRecords {store : List PassRecord} {page : Nat} {r : PassRecord} :
    r ∈ pageRecords store page ↔ r ∈ store ∧ homePage r.ent.serial = page := by
  simp [pageRecords]

/-- A page replaced whole holds exactly the records it was given (R13). -/
theorem pageRecords_replacePage {store records : List PassRecord} {page : Nat} (h : ascending store = true)
    (hrecords : IsPage page records) : pageRecords (replacePage store page records) page = records := by
  refine eq_of_ascending (pageRecords_sorted (ascending_replacePage page records h) page) hrecords.sorted fun x => ?_
  rw [mem_pageRecords, mem_replacePage h hrecords]
  have hhome : x ∈ records → homePage x.ent.serial = page := hrecords.home x
  tauto

/-- The other pages stand (R13). -/
theorem pageRecords_replacePage_of_ne {store records : List PassRecord} {page other : Nat} (h : ascending store = true)
    (hrecords : IsPage page records) (hne : other ≠ page) :
    pageRecords (replacePage store page records) other = pageRecords store other := by
  refine eq_of_ascending (pageRecords_sorted (ascending_replacePage page records h) other) (pageRecords_sorted h other) fun x => ?_
  rw [mem_pageRecords, mem_pageRecords, mem_replacePage h hrecords]
  constructor
  · rintro ⟨hx | ⟨hx, -⟩, rfl⟩
    · exact absurd (hrecords.home x hx) hne
    · exact ⟨hx, rfl⟩
  · rintro ⟨hx, rfl⟩
    exact ⟨.inr ⟨hx, hne⟩, rfl⟩

end Sys2Proof.Machine
end

section
/-! PROOF. Every command keeps the form of the pass store, the soundness of its records, and the agreement of the staging buffer
with it (R4, R6, R9, R10, R114, R122, R129, R131, R133). -/

namespace Sys2Proof.Machine

variable {c : Instr} {s₀ s t : State} {store : List PassRecord}

/-! ## Changes of records in place -/

/-- The record is of the serial and sold as the other: what no change of a live record touches (R1, R3). -/
abbrev PassRecord.sameSale (r q : PassRecord) : Prop :=
  q.ent.serial = r.ent.serial ∧ q.ent.firstDay = r.ent.firstDay ∧ q.ent.window = r.ent.window ∧
    q.ent.rideDays = r.ent.rideDays ∧ q.ent.paid = r.ent.paid

theorem pageRecords_map {f : PassRecord → PassRecord} (hf : ∀ r, (f r).ent.serial = r.ent.serial) (store : List PassRecord)
    (page : Nat) : pageRecords (store.map f) page = (pageRecords store page).map f := by
  unfold pageRecords
  rw [List.filter_map]
  refine congrArg (List.map f) (List.filter_congr fun r _ => ?_)
  rw [Function.comp, hf]

theorem Store.wf.map (h : Store.wf store) {f : PassRecord → PassRecord} (hf : ∀ r, (f r).ent.serial = r.ent.serial) :
    Store.wf (store.map f) := by
  obtain ⟨hsorted, hserial, hpage⟩ := h
  refine ⟨ascending_map f hf hsorted, List.forall_mem_map.mpr fun r hr => ?_, List.forall_mem_map.mpr fun r hr => ?_⟩
  · rw [hf]
    exact hserial r hr
  · rw [hf, pageRecords_map hf, List.length_map]
    exact hpage r hr

theorem Staged.matches.map {e : Staged} (h : e.matches store) {f : PassRecord → PassRecord}
    (hf : ∀ r, PassRecord.sameSale r (f r)) : e.matches (store.map f) := by
  obtain ⟨hnew, hcopied⟩ := h
  refine ⟨?_, fun hmark => List.forall_mem_map.mpr fun r hr hserial => ?_⟩
  · rw [hnew, List.forall_mem_map]
    simp only [(hf _).1]
  · obtain ⟨hs, hfirst, hwindow, hrides, hpaid⟩ := hf r
    rw [hfirst, hwindow, hrides, hpaid]
    exact hcopied hmark r hr (hs.symm.trans hserial)

/-- A page write goes on beside changes of records that leave the usage parts of its page (R14, R133). -/
theorem PageWrite.matches.map {b : Buffer} {w : PageWrite} (h : w.matches store b) (hb : ∀ q ∈ w.image, homePage q.ent.serial = b.page)
    {f : PassRecord → PassRecord} (hf : ∀ r, (f r).ent.serial = r.ent.serial)
    (husage : ∀ r ∈ store, homePage r.ent.serial = b.page → (f r).usage = r.usage) : w.matches (store.map f) b := by
  obtain ⟨himage, hsound, hlive, hnew, hdropped⟩ := h
  refine ⟨himage, hsound, fun q hq => List.forall_mem_map.mpr fun r hr hserial => ?_, fun q hq hnone => ?_,
    List.forall_mem_map.mpr fun r hr hpage hnone => ?_⟩
  · rw [hf] at hserial
    rw [husage r hr (hserial ▸ hb q hq)]
    exact hlive q hq r hr hserial
  · refine hnew q hq fun r hr => ?_
    rw [← hf]
    exact hnone _ (List.mem_map_of_mem hr)
  · rw [hf] at hpage hnone
    rw [husage r hr hpage]
    exact hdropped r hr hpage hnone

/-! ## The staging buffer's law -/

theorem lawful_opened_iff {b : Buffer} {mark : Nat} :
    (Staging.opened b mark).lawful store = true ↔ b.wf ∧ ∀ e ∈ b.entries, e.matches store := decide_eq_true_iff

theorem lawful_committing_iff {b : Buffer} {w : PageWrite} :
    (Staging.committing b w).lawful store = true ↔ b.wf ∧ (∀ e ∈ b.entries, e.matches store) ∧ w.matches store b :=
  decide_eq_true_iff

/-- The records being written are on the buffer's page (R133). -/
theorem homePage_of_image {b : Buffer} {w : PageWrite} (hb : b.wf) (hw : w.matches store b) :
    ∀ q ∈ w.image, homePage q.ent.serial = b.page ∧ q.ent.serial ≠ 0 := by
  intro q hq
  have hmem : q.ent.serial ∈ b.entries.map (fun e => e.ent.serial) := hw.1 ▸ List.mem_map_of_mem hq
  obtain ⟨e, he, hserial⟩ := List.mem_map.mp hmem
  exact hserial ▸ hb.2.2.2 e he

theorem Staging.lawful_map {st : Staging} (h : st.lawful store = true) {f : PassRecord → PassRecord}
    (hf : ∀ r, PassRecord.sameSale r (f r))
    (husage : ∀ r ∈ store, some (homePage r.ent.serial) = st.busyPage → (f r).usage = r.usage) :
    st.lawful (store.map f) = true := by
  cases st with
  | empty => rfl
  | opened b mark =>
    obtain ⟨hb, hmatch⟩ := lawful_opened_iff.mp h
    exact lawful_opened_iff.mpr ⟨hb, fun e he => (hmatch e he).map hf⟩
  | committing b w =>
    obtain ⟨hb, hmatch, hw⟩ := lawful_committing_iff.mp h
    refine lawful_committing_iff.mpr ⟨hb, fun e he => (hmatch e he).map hf, ?_⟩
    exact hw.map (fun q hq => (homePage_of_image hb hw q hq).1) (fun r => (hf r).1)
      fun r hr hpage => husage r hr (congrArg some hpage)

/-! ## The law in parts -/

/-- What the store's law says of store and buffer. -/
abbrev StoreHolds (s : State) : Prop :=
  Store.wf s.store ∧ (∀ r ∈ s.store, r.sound) ∧ s.staging.lawful s.store = true

/-- While STARTING no buffer is held and no request is at the engine (R28, R138, R176). -/
abbrev StartHolds (s : State) : Prop :=
  s.phase = .starting → s.staging = .empty ∧ s.engine.pendingSet = [] ∧ s.engine.deferred = []

theorem storeLaw_iff : StoreLaw s ↔ StoreHolds s ∧ StartHolds s := by
  unfold StoreLaw StoreHolds StartHolds
  tauto

/-! ## One record changed -/

theorem eq_of_serial (h : Store.wf store) {r q : PassRecord} (hr : r ∈ store) (hq : q ∈ store)
    (hserial : q.ent.serial = r.ent.serial) : q = r := by
  have hfind := findRecord_of_mem h.1 hr (h.2.1 r hr)
  rw [← hserial, findRecord_of_mem h.1 hq (h.2.1 q hq)] at hfind
  exact Option.some.inj hfind

/-- A record of a page that is not being written may change its usage part to one with which it is sound (R14). -/
theorem StoreHolds.setRecord {serial : Nat} {f : PassRecord → PassRecord} (h : StoreHolds s)
    (hbusy : s.meetsBusy (pageOfSerial serial) = false) (hf : ∀ q, (f q).ent = q.ent)
    (hsound : ∀ q ∈ s.store, q.ent.serial = serial → (f q).sound) : StoreHolds (s.setRecord serial f) := by
  obtain ⟨hwf, hall, hstaging⟩ := h
  have hent (q : PassRecord) : (if q.ent.serial = serial then f q else q).ent = q.ent := by
    split_ifs
    · exact hf q
    · rfl
  refine ⟨hwf.map fun q => by rw [hent], List.forall_mem_map.mpr fun q hq => ?_, Staging.lawful_map hstaging ?_ fun q hq hpage => ?_⟩
  · split_ifs with hserial
    · exact hsound q hq hserial
    · exact hall q hq
  · intro q
    unfold PassRecord.sameSale
    rw [hent]
    exact ⟨rfl, rfl, rfl, rfl, rfl⟩
  · split_ifs with hserial
    · subst hserial
      have hne := hwf.2.1 q hq
      have hmeets : s.meetsBusy (pageOfSerial q.ent.serial) = true := by
        rw [meetsBusy_iff, pageOfSerial, if_neg hne, pageBusy_eq]
        exact ⟨rfl, hpage⟩
      rw [hmeets] at hbusy
      cases hbusy
    · rfl

theorem record_mem {serial : Nat} {r : PassRecord} (h : s.record serial = some r) :
    serial ≠ 0 ∧ r ∈ s.store ∧ r.ent.serial = serial := findRecord_some h

/-- The record found is the one that a change of its serial reaches. -/
theorem StoreHolds.setFound {serial : Nat} {r : PassRecord} {f : PassRecord → PassRecord} (h : StoreHolds s)
    (hrec : s.record serial = some r) (hbusy : s.meetsBusy (pageOfSerial serial) = false) (hf : ∀ q, (f q).ent = q.ent)
    (hsound : r.sound → (f r).sound) : StoreHolds (s.setRecord serial f) := by
  obtain ⟨-, hr, hserial⟩ := record_mem hrec
  refine h.setRecord hbusy hf fun q hq hq' => ?_
  obtain rfl := eq_of_serial h.1 hr hq (hq'.trans hserial.symm)
  exact hsound (h.2.1 q hq)

/-- What a task leaves of the store (R50, R52). -/
theorem StoreHolds.serveTask {task : Task} (h : StoreHolds s) (hbusy : s.meetsBusy (pageOfSerial task.pass.serial) = false) :
    StoreHolds (serveTask s task) := by
  unfold Machine.serveTask
  split
  · unfold serveConfirm
    split
    · split
      · exact h.setRecord hbusy (fun _ => rfl) fun q hq _ => (h.2.1 q hq).confirm _
      · exact h
      · exact h
    · exact h
  · unfold serveVoid
    split
    · exact h
    · exact h.setRecord hbusy (fun _ => rfl) fun q hq _ => (h.2.1 q hq).void _

theorem StoreHolds.scan (h : StoreHolds s) (hempty : s.staging = .empty) : StoreHolds { s with store := scanStore s.store } := by
  obtain ⟨hwf, hall, -⟩ := h
  exact ⟨hwf.map fun _ => rfl, List.forall_mem_map.mpr fun r hr => (hall r hr).scan, by rw [hempty]; rfl⟩

/-! ## Blocking -/

/-- The staged entry is of the serial, sold as the other, and marked as it is. -/
abbrev Staged.sameSale (e q : Staged) : Prop :=
  q.mark = e.mark ∧ q.ent.serial = e.ent.serial ∧ q.ent.firstDay = e.ent.firstDay ∧ q.ent.window = e.ent.window ∧
    q.ent.rideDays = e.ent.rideDays ∧ q.ent.paid = e.ent.paid

theorem Staged.matches.of_sameSale {e q : Staged} (h : e.matches store) (hq : Staged.sameSale e q) : q.matches store := by
  obtain ⟨hmark, hserial, hfirst, hwindow, hrides, hpaid⟩ := hq
  unfold Staged.matches
  rw [hmark, hserial, hfirst, hwindow, hrides, hpaid]
  exact h

theorem Staging.lawful_mapEntries {st : Staging} (h : st.lawful store = true) {f : Staged → Staged}
    (hf : ∀ e, Staged.sameSale e (f e)) : (st.mapEntries (List.map f)).lawful store = true := by
  have hserial (e : Staged) : (f e).ent.serial = e.ent.serial := (hf e).2.1
  have hwf {b : Buffer} (hb : b.wf) : ({ b with entries := b.entries.map f } : Buffer).wf := by
    obtain ⟨hpage, hlen, hsorted, hhome⟩ := hb
    refine ⟨hpage, by simpa using hlen, ?_, List.forall_mem_map.mpr fun e he => ?_⟩
    · rw [List.pairwise_map]
      exact hsorted.imp fun hlt => by rwa [hserial, hserial]
    · rw [hserial]
      exact hhome e he
  have hmatches {es : List Staged} (hes : ∀ e ∈ es, e.matches store) : ∀ e ∈ es.map f, e.matches store :=
    List.forall_mem_map.mpr fun e he => (hes e he).of_sameSale (hf e)
  cases st with
  | empty => rfl
  | opened b mark =>
    obtain ⟨hb, hmatch⟩ := lawful_opened_iff.mp h
    exact lawful_opened_iff.mpr ⟨hwf hb, hmatches hmatch⟩
  | committing b w =>
    obtain ⟨hb, hmatch, himage, hw⟩ := lawful_committing_iff.mp h
    refine lawful_committing_iff.mpr ⟨hwf hb, hmatches hmatch, ?_, hw⟩
    rw [himage, List.map_map]
    exact List.map_congr_left fun e _ => (hserial e).symm

/-- The store after a BLOCK or UNBLOCK of a serial (R17). -/
def liveFlagged (s : State) (serial : Nat) (flag : Bool) : List PassRecord :=
  if (s.record serial).isSome then updateRecord s.store serial (PassRecord.setBlocked flag) else s.store

theorem StoreHolds.flag (h : StoreHolds s) (serial : Nat) (flag : Bool) : StoreHolds (serveFlag s serial flag).state := by
  have hlive : Store.wf (liveFlagged s serial flag) ∧ (∀ r ∈ liveFlagged s serial flag, r.sound) ∧
      s.staging.lawful (liveFlagged s serial flag) = true := by
    unfold liveFlagged
    split
    · obtain ⟨hwf, hall, hstaging⟩ := h
      have hsale (r : PassRecord) : PassRecord.sameSale r (if r.ent.serial = serial then r.setBlocked flag else r) := by
        split_ifs <;> exact ⟨rfl, rfl, rfl, rfl, rfl⟩
      refine ⟨hwf.map fun r => (hsale r).1, List.forall_mem_map.mpr fun r hr => ?_, Staging.lawful_map hstaging hsale fun r _ _ => ?_⟩
      · split_ifs
        · exact (hall r hr).setBlocked flag
        · exact hall r hr
      · split_ifs <;> rfl
    · exact h
  obtain ⟨hwf, hall, hstaging⟩ := hlive
  unfold serveFlag
  dsimp only
  split
  · refine ⟨hwf, hall, ?_⟩
    by_cases hstaged : (serial != 0 && isStaged s.staging serial) = true
    · rw [if_pos hstaged]
      refine Staging.lawful_mapEntries hstaging fun e => ?_
      split_ifs <;> exact ⟨rfl, rfl, rfl, rfl, rfl, rfl⟩
    · rw [if_neg hstaged]
      exact hstaging
  · exact h

/-! ## The staging buffer -/

theorem Store.wf.length_pageRecords (h : Store.wf store) (page : Nat) : (pageRecords store page).length ≤ Config.pageRecords := by
  cases hpage : pageRecords store page with
  | nil => exact Nat.zero_le _
  | cons r rest =>
    obtain ⟨hr, rfl⟩ := mem_pageRecords.mp (hpage ▸ List.mem_cons_self)
    exact hpage ▸ h.2.2 r hr

/-- The copies of a page (R124). -/
theorem lawful_copied (h : Store.wf store) {page : Nat} (hpage : page < Config.pageCount) (i : StationId) (mark : Nat) :
    (Staging.opened { page := page, owner := i, entries := (pageRecords store page).map copyStaged } mark).lawful store = true := by
  refine lawful_opened_iff.mpr ⟨⟨hpage, ?_, ?_, ?_⟩, ?_⟩
  · exact (List.length_map copyStaged).trans_le (h.length_pageRecords page)
  · exact List.pairwise_map.mpr (pageRecords_sorted h.1 page)
  · refine List.forall_mem_map.mpr fun r hr => ?_
    obtain ⟨hr, hhome⟩ := mem_pageRecords.mp hr
    exact ⟨hhome, h.2.1 r hr⟩
  · refine List.forall_mem_map.mpr fun r hr => ?_
    obtain ⟨hr, -⟩ := mem_pageRecords.mp hr
    refine ⟨⟨fun hmark => by simp [copyStaged] at hmark, fun hnone => absurd rfl (hnone r hr)⟩, fun _ q hq hserial => ?_⟩
    obtain rfl := eq_of_serial h hr hq hserial
    exact ⟨rfl, rfl, rfl, rfl⟩

/-- A serial not 0 has a live record exactly where the store holds one of it (R11). -/
theorem record_isSome_iff {serial : Nat} (h : Store.wf s.store) (hne : serial ≠ 0) :
    (s.record serial).isSome = true ↔ ∃ r ∈ s.store, r.ent.serial = serial := by
  constructor
  · intro hsome
    obtain ⟨r, hrec⟩ := Option.isSome_iff_exists.mp hsome
    obtain ⟨-, hr, hserial⟩ := record_mem hrec
    exact ⟨r, hr, hserial⟩
  · rintro ⟨r, hr, rfl⟩
    rw [State.record, findRecord_of_mem h.1 hr hne]
    rfl

/-- The entry of a RECORD PUT (R122, R125). -/
theorem matches_put {e : Entitlement} (h : Store.wf s.store) (hne : e.serial ≠ 0) :
    ({ ent := e, mark := putMark s e.serial } : Staged).matches s.store := by
  have hlive := record_isSome_iff h hne
  refine ⟨?_, fun hmark => ?_⟩
  · have hnot : (∀ r ∈ s.store, r.ent.serial ≠ e.serial) ↔ ¬ (s.record e.serial).isSome = true := by
      rw [hlive]
      push Not
      rfl
    rw [hnot]
    unfold putMark
    split <;> simp_all
  · unfold putMark at hmark
    split at hmark <;> cases hmark

theorem StoreHolds.put {b : Buffer} {mark : Nat} {e : Entitlement} (h : StoreHolds s) (hs : s.staging = .opened b mark)
    (hok : entitlementOk e = true) (hpage : homePage e.serial = b.page)
    (hroom : holdsSerial b.entries e.serial = true ∨ b.entries.length < Config.pageRecords) :
    StoreHolds (s.restage { b with entries := insertStaged { ent := e, mark := putMark s e.serial } b.entries }) := by
  obtain ⟨hwf, hall, hstaging⟩ := h
  rw [hs] at hstaging
  obtain ⟨⟨hcount, hlen, hsorted, hhome⟩, hmatch⟩ := lawful_opened_iff.mp hstaging
  have hne : e.serial ≠ 0 := by
    simp only [entitlementOk, Bool.and_eq_true, decide_eq_true_eq] at hok
    omega
  refine ⟨hwf, hall, lawful_opened_iff.mpr ⟨⟨hcount, ?_, insertStaged_sorted _ hsorted, fun x hx => ?_⟩, fun x hx => ?_⟩⟩
  · exact length_insertStaged_le hsorted hlen hroom
  · obtain rfl | ⟨hx, -⟩ := (mem_insertStaged hsorted).mp hx
    · exact ⟨hpage, hne⟩
    · exact hhome x hx
  · obtain rfl | ⟨hx, -⟩ := (mem_insertStaged hsorted).mp hx
    · exact matches_put hwf hne
    · exact hmatch x hx

theorem StoreHolds.drop {b : Buffer} {mark serial : Nat} (h : StoreHolds s) (hs : s.staging = .opened b mark) :
    StoreHolds (s.restage { b with entries := b.entries.filter (fun e => e.ent.serial != serial) }) := by
  obtain ⟨hwf, hall, hstaging⟩ := h
  rw [hs] at hstaging
  obtain ⟨⟨hcount, hlen, hsorted, hhome⟩, hmatch⟩ := lawful_opened_iff.mp hstaging
  refine ⟨hwf, hall, lawful_opened_iff.mpr ⟨⟨hcount, (List.length_filter_le ..).trans hlen, hsorted.filter _, fun x hx => ?_⟩,
    fun x hx => ?_⟩⟩
  · exact hhome x (List.mem_of_mem_filter hx)
  · exact hmatch x (List.mem_of_mem_filter hx)

theorem StoreHolds.withStaging {st : Staging} (h : StoreHolds s) (hst : st.lawful s.store = true) :
    StoreHolds { s with staging := st } :=
  ⟨h.1, h.2.1, hst⟩

/-! ## Writing a page -/

theorem find?_serial {es : List Staged} (h : Staged.sorted es) {e : Staged} (he : e ∈ es) :
    es.find? (fun x => x.ent.serial == e.ent.serial) = some e := by
  induction es with
  | nil => cases he
  | cons x rest ih =>
    obtain ⟨hx, hrest⟩ := List.pairwise_cons.mp h
    obtain rfl | he := List.mem_cons.mp he
    · exact List.find?_cons_of_pos (by simp)
    · rw [List.find?_cons_of_neg (by simpa using (hx e he).ne)]
      exact ih hrest he

theorem firstConflict_eq_none {es : List Staged} {rs : List PassRecord} (h : firstConflict es rs = none) :
    ∀ r ∈ rs, recordConflict es r = none := by
  induction rs with
  | nil => simp
  | cons r rest ih =>
    unfold firstConflict at h
    split at h
    · cases h
    · exact List.forall_mem_cons.mpr ⟨‹_›, ih h⟩

/-- A REPLACED entry without a conflict fits its live usage (R131). -/
theorem sound_of_replacedConflict {r : PassRecord} {e : Entitlement} (hr : r.sound) (h : replacedConflict r.usage e = none) :
    ({ ent := e, usage := r.usage } : PassRecord).sound := by
  unfold replacedConflict at h
  split_ifs at h with hdays hwindow hpaid
  obtain ⟨hsorted, -, -, -⟩ := hr
  refine ⟨hsorted, fun u hu => ?_, Nat.le_of_not_lt hdays, Nat.le_of_not_lt hpaid⟩
  have hinside : ¬ (u.day < e.firstDay ∨ e.lastDay < u.day) := fun hout => hwindow (List.any_eq_true.mpr ⟨u, hu, by simpa using hout⟩)
  exact ⟨Nat.le_of_not_lt fun hlt => hinside (.inl hlt), Nat.le_of_not_lt fun hlt => hinside (.inr hlt)⟩

/-- The usage part that a staged entry's record takes is the live one (R133). -/
theorem carriedUsage_of_live {e : Staged} {r : PassRecord} (hwf : Store.wf store) (he : e.matches store) (hr : r ∈ store)
    (hserial : r.ent.serial = e.ent.serial) : e.mark ≠ .new ∧ carriedUsage store e = r.usage := by
  have hmark : e.mark ≠ .new := fun hnew => he.1.mp hnew r hr hserial
  have hfind : findRecord store e.ent.serial = some r := hserial ▸ findRecord_of_mem hwf.1 hr (hwf.2.1 r hr)
  refine ⟨hmark, ?_⟩
  unfold carriedUsage
  rw [hfind]
  cases hm : e.mark with
  | new => exact absurd hm hmark
  | copied => rfl
  | replaced => rfl

theorem carriedUsage_of_none {e : Staged} (he : e.matches store) (hnone : ∀ r ∈ store, r.ent.serial ≠ e.ent.serial) :
    carriedUsage store e = {} := by
  have hmark : e.mark = .new := he.1.mpr hnone
  rw [carriedUsage, hmark]

theorem sound_empty (e : Entitlement) : ({ ent := e, usage := {} } : PassRecord).sound :=
  ⟨.nil, by simp, Nat.zero_le _, Nat.zero_le _⟩

/-- The record that a staged entry without a conflict becomes is sound (R131, R133). -/
theorem sound_carried {es : List Staged} {e : Staged} (hwf : Store.wf store) (hall : ∀ r ∈ store, r.sound) (hsorted : Staged.sorted es)
    (he : e ∈ es) (hmatch : e.matches store) (hnone : ∀ r ∈ store, r.ent.serial = e.ent.serial → recordConflict es r = none) :
    ({ ent := e.ent, usage := carriedUsage store e } : PassRecord).sound := by
  by_cases hlive : ∃ r ∈ store, r.ent.serial = e.ent.serial
  · obtain ⟨r, hr, hserial⟩ := hlive
    obtain ⟨hnew, hcarried⟩ := carriedUsage_of_live hwf hmatch hr hserial
    have hconflict := hnone r hr hserial
    simp only [recordConflict, hserial, find?_serial hsorted he] at hconflict
    rw [hcarried]
    cases hm : e.mark with
    | new => exact absurd hm hnew
    | replaced =>
      rw [hm] at hconflict
      exact sound_of_replacedConflict (hall r hr) hconflict
    | copied =>
      obtain ⟨hfirst, hwindow, hrides, hpaid⟩ := hmatch.2 hm r hr hserial
      obtain ⟨hsort, hdays, hlen, htotal⟩ := hall r hr
      refine ⟨hsort, ?_, hrides ▸ hlen, hpaid ▸ htotal⟩
      simpa only [Entitlement.lastDay, hfirst, hwindow] using hdays
  · have hnolive : ∀ r ∈ store, r.ent.serial ≠ e.ent.serial := fun r hr heq => hlive ⟨r, hr, heq⟩
    rw [carriedUsage_of_none hmatch hnolive]
    exact sound_empty _

theorem StoreHolds.beginWrite {b : Buffer} {mark : Nat} (h : StoreHolds s) (hs : s.staging = .opened b mark)
    (hconflict : firstConflict b.entries (pageRecords s.store b.page) = none) : StoreHolds (beginWrite s b) := by
  obtain ⟨hwf, hall, hstaging⟩ := h
  rw [hs] at hstaging
  obtain ⟨hb, hmatch⟩ := lawful_opened_iff.mp hstaging
  have hnone : ∀ r ∈ s.store, homePage r.ent.serial = b.page → recordConflict b.entries r = none :=
    fun r hr hpage => firstConflict_eq_none hconflict r (mem_pageRecords.mpr ⟨hr, hpage⟩)
  refine ⟨hwf, hall, lawful_committing_iff.mpr ⟨hb, hmatch, ?_, ?_, ?_, ?_, fun r hr hpage himage => ?_⟩⟩
  · rw [buildPage, List.map_map]
    rfl
  · refine List.forall_mem_map.mpr fun e he => sound_carried hwf hall hb.2.2.1 he (hmatch e he) fun r hr hserial => ?_
    exact hnone r hr (hserial ▸ (hb.2.2.2 e he).1)
  · exact List.forall_mem_map.mpr fun e he r hr hserial => (carriedUsage_of_live hwf (hmatch e he) hr hserial).2
  · exact List.forall_mem_map.mpr fun e he hlive => carriedUsage_of_none (hmatch e he) hlive
  · have hfind : b.entries.find? (fun e => e.ent.serial == r.ent.serial) = none := by
      refine List.find?_eq_none.mpr fun e he => ?_
      simpa using himage _ (List.mem_map_of_mem he)
    have hdropped := hnone r hr hpage
    rw [recordConflict, hfind] at hdropped
    simpa using hdropped

theorem withStagedFlag_usage (es : List Staged) (r : PassRecord) : (withStagedFlag es r).usage = r.usage := by
  unfold withStagedFlag
  split <;> rfl

theorem withStagedFlag_serial (es : List Staged) (r : PassRecord) : (withStagedFlag es r).ent.serial = r.ent.serial := by
  unfold withStagedFlag
  split <;> rfl

theorem withStagedFlag_sound (es : List Staged) {r : PassRecord} (h : r.sound) : (withStagedFlag es r).sound := by
  unfold withStagedFlag
  split
  · exact h.setBlocked _
  · exact h

/-- What a page write holds is a page (R133). -/
theorem isPage_image {b : Buffer} {w : PageWrite} (hb : b.wf) (hw : w.matches store b) (es : List Staged) :
    IsPage b.page (w.image.map (withStagedFlag es)) := by
  refine ⟨?_, List.forall_mem_map.mpr fun q hq => ?_⟩
  · have hserials : (w.image.map (fun q => q.ent.serial)).Pairwise (· < ·) := by
      rw [hw.1]
      exact List.pairwise_map.mpr hb.2.2.1
    rw [List.pairwise_map] at hserials ⊢
    exact hserials.imp fun hlt => by rwa [withStagedFlag_serial, withStagedFlag_serial]
  · rw [withStagedFlag_serial]
    exact (homePage_of_image hb hw q hq).1

theorem StoreHolds.written {b : Buffer} {w : PageWrite} {e : Engine} (h : StoreHolds s) (hs : s.staging = .committing b w) :
    StoreHolds
      { s with store := replacePage s.store b.page (w.image.map (withStagedFlag b.entries)), staging := .empty, engine := e } := by
  obtain ⟨hwf, hall, hstaging⟩ := h
  rw [hs] at hstaging
  obtain ⟨hb, -, hw⟩ := lawful_committing_iff.mp hstaging
  have hpage := isPage_image hb hw b.entries
  have hmem {x : PassRecord} := mem_replacePage hwf.1 hpage (x := x)
  have hlen : (w.image.map (withStagedFlag b.entries)).length ≤ Config.pageRecords := by
    have hcount := congrArg List.length hw.1
    rw [List.length_map, List.length_map] at hcount
    rw [List.length_map, hcount]
    exact hb.2.1
  refine ⟨⟨ascending_replacePage _ _ hwf.1, fun x hx => ?_, fun x hx => ?_⟩, fun x hx => ?_, rfl⟩
  · obtain hx | ⟨hx, -⟩ := hmem.mp hx
    · obtain ⟨q, hq, rfl⟩ := List.mem_map.mp hx
      rw [withStagedFlag_serial]
      exact (homePage_of_image hb hw q hq).2
    · exact hwf.2.1 x hx
  · by_cases hhome : homePage x.ent.serial = b.page
    · rw [hhome, pageRecords_replacePage hwf.1 hpage]
      exact hlen
    · rw [pageRecords_replacePage_of_ne hwf.1 hpage hhome]
      exact hwf.length_pageRecords _
  · obtain hx | ⟨hx, -⟩ := hmem.mp hx
    · obtain ⟨q, hq, rfl⟩ := List.mem_map.mp hx
      exact withStagedFlag_sound _ (hw.2.1 q hq)
    · exact hall x hx

end Sys2Proof.Machine
end

section
/-! PROOF. The law of the pass store over every move (R4, R6, R9, R10, R28, R114, R122, R131, R133, R138). -/

namespace Sys2Proof.Machine

variable {c : Instr} {s₀ s t : State}

theorem StoreHolds.of_same (h : StoreHolds s) (hstore : t.store = s.store) (hstaging : t.staging = s.staging) : StoreHolds t := by
  unfold StoreHolds
  rw [hstore, hstaging]
  exact h

theorem Effect.storeHolds (h : Effect c s₀ s t) (hstart : StartHolds s) (hs : StoreHolds s) : StoreHolds t := by
  cases h
  case admitHeld k serial r consumed hstate hroom hrec hv hbusy htasks =>
    have hset := hs.setFound (f := fun q => q.withUsage (r.usage.admitHeld (s.admitCtx k))) hrec hbusy (fun _ => rfl)
      fun hr => hr.admitHeld hv
    exact hset.of_same rfl rfl
  case admitSettled k serial r consumed hrec hv hbusy =>
    exact hs.setFound hrec hbusy (fun _ => rfl) fun hr => hr.admitSettled hv
  case flag serial flag => exact hs.flag serial flag
  case opened i page hstaging hpage hready => exact hs.withStaging (lawful_copied hs.1 hpage i _)
  case put b mark e hstaging hok hpage hroom => exact hs.put hstaging hok hpage hroom
  case drop b mark serial hstaging => exact hs.drop hstaging
  case touched b mark mark' hstaging =>
    have hlawful : (Staging.opened b mark).lawful s.store = true := hstaging ▸ hs.2.2
    exact hs.withStaging (lawful_opened_iff.mpr (lawful_opened_iff.mp hlawful))
  case abandoned b mark hstaging => exact (hs.withStaging (st := .empty) rfl).of_same rfl rfl
  case refunded p serial r j hrec hdays hjournal hbusy =>
    obtain ⟨-, -, hserial⟩ := record_mem hrec
    have hset := hs.setFound (f := PassRecord.refund j (figuresFor (s.tariffOf r.ent.classNo) r j).amount) hrec hbusy
      (fun _ => rfl) fun hr => hr.refund _ hdays
    exact hset.of_same (by rw [← hserial]; rfl) rfl
  case reference => exact hs.of_same (by rw [applyReference_frame]) (by rw [applyReference_frame])
  case configured => exact hs.of_same (by rw [storeProfile_frame]) (by rw [storeProfile_frame])
  case boundary =>
    exact hs.of_same (by rw [closeAtBoundary, closeInterval_frame]) (by rw [closeAtBoundary, closeInterval_frame])
  case settled => exact hs.of_same (settleDay_store s) (settleDay_staging s)
  case ready hphase => exact (hs.scan (hstart hphase).1).of_same rfl rfl
  case taskServed task hnext hbusy =>
    exact StoreHolds.serveTask (s := { s with engine := s.engine.dropTask }) hs hbusy
  case deferredTaskServed task rest hd hfree =>
    refine StoreHolds.serveTask (s := { s with engine := { s.engine with deferred := rest } }) hs ?_
    change s.meetsBusy (pageOfSerial task.pass.serial) = false
    simp [State.meetsBusy, hfree]
  all_goals exact hs

theorem StartHolds.of_same (h : StartHolds s) (hphase : t.phase = s.phase) (hstaging : t.staging = s.staging)
    (hpending : t.engine.pendingSet = s.engine.pendingSet) (hdeferred : t.engine.deferred = s.engine.deferred) : StartHolds t := by
  unfold StartHolds
  rw [hphase, hstaging, hpending, hdeferred]
  exact h

/-- While STARTING no page is busy (R138). -/
theorem StartHolds.pageBusy (h : StartHolds s) (hphase : s.phase = .starting) : s.pageBusy = none := by
  rw [pageBusy_eq, (h hphase).1]
  rfl

theorem serveFlag_startHolds (h : StartHolds s) (serial : Nat) (flag : Bool) : StartHolds (serveFlag s serial flag).state := by
  intro hphase
  rw [serveFlag_frame] at hphase ⊢
  obtain ⟨hempty, hpending, hdeferred⟩ := h hphase
  refine ⟨?_, hpending, hdeferred⟩
  unfold serveFlag
  dsimp only
  split
  · dsimp only
    rw [hempty]
    split <;> rfl
  · exact hempty

/-- The staging buffer is not EMPTY, so that the device is not STARTING (R138). -/
theorem StartHolds.of_staging (h : StartHolds s) (hstaging : s.staging ≠ .empty) (hphase : t.phase = s.phase) : StartHolds t :=
  fun ht => absurd (h (hphase ▸ ht)).1 hstaging

theorem Effect.startHolds (h : Effect c s₀ s t) (h₀ : StoreLaw s₀) (hs : StartHolds s) : StartHolds t := by
  cases h
  case flag serial flag => exact serveFlag_startHolds hs serial flag
  case opened i page hstaging hpage hready => exact fun hphase => by simp [hready h₀] at hphase
  case put b mark e hstaging hok hpage hroom => exact hs.of_staging (by simp [hstaging]) rfl
  case drop b mark serial hstaging => exact hs.of_staging (by simp [hstaging]) rfl
  case touched b mark mark' hstaging => exact hs.of_staging (by simp [hstaging]) rfl
  case abandoned b mark hstaging => exact hs.of_staging (by simp [hstaging]) rfl
  case reference => rw [applyReference_frame]; exact hs
  case configured => rw [storeProfile_frame]; exact hs
  case boundary => rw [closeAtBoundary, closeInterval_frame]; exact hs
  case settled => rw [settleDay_frame]; exact hs
  case ready hphase => exact fun hready => by simp [becomeReady] at hready
  case taskServed task hnext hbusy => rw [serveTask_frame]; exact hs
  case deferredTaskServed task rest hd hfree =>
    rw [serveTask_frame]
    intro hphase
    have hempty := (hs hphase).2.2
    rw [hd] at hempty
    cases hempty
  case taskDeferred task hnext hbusy hroom =>
    exact fun hphase => absurd (hs.pageBusy hphase) (pageBusy_ne_none_of_meetsBusy hbusy)
  case requestLeft p hbusy => exact fun hphase => absurd (hs.pageBusy hphase) hbusy
  all_goals exact hs

theorem Staging.lawful_portReset {store : List PassRecord} {st : Staging} (h : st.lawful store = true) (i : StationId) :
    (st.portReset i).lawful store = true := by
  unfold Staging.portReset
  split
  · rfl
  · split_ifs
    · rfl
    · exact h
  · split_ifs
    · exact lawful_committing_iff.mpr (lawful_committing_iff.mp h)
    · exact h

theorem StoreHolds.writeFailed {b : Buffer} {w : PageWrite} {e : Engine} (h : StoreHolds s) (hs : s.staging = .committing b w) :
    StoreHolds { s with staging := if w.disowned then .empty else .opened b s.elapsed, engine := e } := by
  obtain ⟨hwf, hall, hstaging⟩ := h
  rw [hs] at hstaging
  obtain ⟨hb, hmatch, -⟩ := lawful_committing_iff.mp hstaging
  refine ⟨hwf, hall, ?_⟩
  dsimp only
  split_ifs
  · rfl
  · exact lawful_opened_iff.mpr ⟨hb, hmatch⟩

theorem Move.storeHolds (h : Move c s₀ s t) (hstart : StartHolds s) (hs : StoreHolds s) : StoreHolds t := by
  cases h
  case effect h => exact h.storeHolds hstart hs
  case port p ps => cases p <;> exact hs
  case begun b mark hstaging hconflict _ _ => exact hs.beginWrite hstaging hconflict
  case written b w hstaging => exact hs.written hstaging
  case writeFailed b w hstaging => exact hs.writeFailed hstaging
  case stagingReset i => exact ⟨hs.1, hs.2.1, Staging.lawful_portReset hs.2.2 i⟩
  case reset =>
    obtain ⟨hwf, hall, -⟩ := hs
    rw [deviceReset_frame]
    exact ⟨hwf.map fun _ => rfl, List.forall_mem_map.mpr fun r hr => (hall r hr).scan, rfl⟩
  all_goals exact hs

theorem Move.startHolds (h : Move c s₀ s t) (h₀ : StoreLaw s₀) (hs : StartHolds s) : StartHolds t := by
  cases h
  case effect h => exact h.startHolds h₀ hs
  case port p ps => cases p <;> exact hs
  case enqueued r hleft hready => exact fun hphase => by simp [State.enqueue, hready] at hphase
  case requestTaken p =>
    intro hphase
    obtain ⟨hempty, hpending, hdeferred⟩ := hs hphase
    exact ⟨hempty, by simp [Engine.takeRequest, hpending], hdeferred⟩
  case requestDeferred r op hop hbusy hroom =>
    exact fun hphase => absurd (hs.pageBusy hphase) (pageBusy_ne_none_of_meetsBusy hbusy)
  case deferredTaken r rest hd =>
    intro hphase
    have hempty := (hs hphase).2.2
    rw [hd] at hempty
    cases hempty
  case withdrawn p =>
    intro hphase
    obtain ⟨hempty, hpending, hdeferred⟩ := hs hphase
    exact ⟨hempty, by simp [Engine.portReset, hpending], by simp [Engine.portReset, hdeferred]⟩
  case begun b mark hstaging _ _ _ => exact hs.of_staging (by simp [hstaging]) rfl
  case written b w hstaging => exact hs.of_staging (by simp [hstaging]) rfl
  case writeFailed b w hstaging => exact hs.of_staging (by simp [hstaging]) rfl
  case stagingReset i =>
    intro hphase
    obtain ⟨hempty, hrest⟩ := hs hphase
    exact ⟨by simp [hempty, Staging.portReset], hrest⟩
  case reset =>
    rw [deviceReset_frame]
    exact fun _ => ⟨rfl, rfl, rfl⟩
  all_goals exact hs

theorem Move.storeLaw (h : Move c s₀ s t) (h₀ : StoreLaw s₀) (hs : StoreLaw s) : StoreLaw t := by
  obtain ⟨hholds, hstart⟩ := storeLaw_iff.mp hs
  exact storeLaw_iff.mpr ⟨h.storeHolds hstart hholds, h.startHolds h₀ hstart⟩

/-- Settles O28: every move keeps the law of the pass store. -/
theorem storeLawIsKept : Obligations.StoreLawIsKept := by
  intro s t hs _ h
  exact step_keeps_from (fun _ _ hu => hu) (fun _ _ _ _ h₀ hu hm => hm.storeLaw h₀ hu) hs h

end Sys2Proof.Machine
end

section
/-! PROOF. The balance of the used-day lists: every PROVISIONAL day counts the admissions that hold it, those of the riders in
flight and those handed over as tasks, and how an admission, a task and the start-up scan move it (R4, R44, R50, R51, R53). -/

namespace Sys2Proof.Machine

/-! ## The state of a day under each operation -/

theorem dayState_setDay (used : List UsedDay) (day d : Nat) (st : DayState) :
    dayState (setDay used day st) d = if d = day then (dayState used d).map (fun _ => st) else dayState used d := by
  unfold dayState setDay
  induction used with
  | nil => simp
  | cons u rest ih =>
    have hday : (if u.day = day then { u with state := st } else u).day = u.day := by split_ifs <;> rfl
    rw [List.map_cons]
    by_cases hu : u.day = d
    · rw [List.find?_cons_of_pos (by simpa [hday] using hu), List.find?_cons_of_pos (by simpa using hu)]
      by_cases hd : d = day
      · simp [hd, hu]
      · simp [hd, hu]
    · rw [List.find?_cons_of_neg (by simpa [hday] using hu), List.find?_cons_of_neg (by simpa using hu)]
      exact ih

theorem dayState_removeDay (used : List UsedDay) (day d : Nat) :
    dayState (removeDay used day) d = if d = day then none else dayState used d := by
  unfold dayState removeDay
  rw [List.find?_filter]
  split_ifs with hd
  · subst hd
    simp
  · refine congrArg (Option.map _) (List.find?_congr fun u _ => ?_)
    by_cases hu : u.day = d <;> simp [hu, hd]

theorem dayState_insertDay {u : UsedDay} {used : List UsedDay} (h : dayState used u.day = none) (d : Nat) :
    dayState (insertDay u used) d = if d = u.day then some u.state else dayState used d := by
  have hne := dayState_eq_none_iff.mp h
  clear h
  unfold dayState
  induction used with
  | nil => by_cases hd : d = u.day <;> simp [insertDay, hd, Ne.symm]
  | cons v rest ih =>
    obtain ⟨hv, hrest⟩ := List.forall_mem_cons.mp hne
    unfold insertDay
    by_cases hlt : u.day < v.day
    · rw [if_pos hlt]
      by_cases hd : d = u.day
      · rw [if_pos hd, List.find?_cons_of_pos (by simp [hd])]
        rfl
      · rw [if_neg hd, List.find?_cons_of_neg (by simpa using Ne.symm hd)]
    · rw [if_neg hlt]
      by_cases hvd : v.day = d
      · rw [List.find?_cons_of_pos (by simp [hvd]), List.find?_cons_of_pos (by simp [hvd]), if_neg (hvd ▸ hv)]
      · rw [List.find?_cons_of_neg (by simpa using hvd), List.find?_cons_of_neg (by simpa using hvd)]
        exact ih hrest

theorem dayState_confirmAll (used : List UsedDay) (d : Nat) :
    dayState (confirmAll used) d = (dayState used d).map (fun _ => .confirmed) := by
  unfold dayState confirmAll
  rw [List.find?_map, Option.map_map, Option.map_map]
  rfl

/-- In day order each entry of a list is the state of its day (R4). -/
theorem dayState_eq_some_iff {used : List UsedDay} (h : used.Pairwise (fun x y => x.day < y.day)) {d : Nat} {st : DayState} :
    dayState used d = some st ↔ ∃ u ∈ used, u.day = d ∧ u.state = st := by
  unfold dayState
  induction used with
  | nil => simp
  | cons v rest ih =>
    obtain ⟨hv, hrest⟩ := List.pairwise_cons.mp h
    by_cases hvd : v.day = d
    · have hnone : ∀ u ∈ rest, u.day ≠ d := fun u hu => hvd ▸ (hv u hu).ne'
      rw [List.find?_cons_of_pos (by simp [hvd])]
      simp only [Option.map_some, Option.some.injEq, List.mem_cons, exists_eq_or_imp]
      constructor
      · exact fun hst => .inl ⟨hvd, hst⟩
      · rintro (⟨-, hst⟩ | ⟨u, hu, hday, -⟩)
        · exact hst
        · exact absurd hday (hnone u hu)
    · rw [List.find?_cons_of_neg (by simpa using hvd), ih hrest]
      simp [hvd]

/-! ## Balance -/

/-- The admission holds the day of the serial (R44). -/
theorem holds_iff {serial day : Nat} {a : Admission} : a.holds serial day = true ↔ a.serial = serial ∧ a.heldDay = some day := by
  simp [Admission.holds]

/-- Every PROVISIONAL day counts its holders among the riders in flight and the admissions handed over; a rider's held day is
PROVISIONAL in its record, and that of an admission handed over is in its record's list (R4, R44, R51). -/
structure Balanced (store : List PassRecord) (riding handed : Multiset Admission) : Prop where
  counts : ∀ r ∈ store, ∀ d n, dayState r.usage.used d = some (.provisional n) →
    1 ≤ n ∧ n = (riding + handed).countP (fun a => a.holds r.ent.serial d = true)
  riders : ∀ a ∈ riding, ∀ d, a.heldDay = some d →
    ∃ r ∈ store, r.ent.serial = a.serial ∧ ∃ n, dayState r.usage.used d = some (.provisional n)
  tasks : ∀ a ∈ handed, ∀ d, a.heldDay = some d →
    ∃ r ∈ store, r.ent.serial = a.serial ∧ (dayState r.usage.used d).isSome = true

variable {store store' : List PassRecord} {riding handed riding' handed' : Multiset Admission}

/-- A rider that leaves its lane is handed over (R21). -/
theorem Balanced.handOver {out : Multiset Admission} (h : Balanced store (out + riding) handed) :
    Balanced store riding (handed + out) := by
  obtain ⟨hcounts, hriders, htasks⟩ := h
  refine ⟨?_, fun a ha => hriders a (Multiset.mem_add.mpr (.inr ha)), fun a ha d hd => ?_⟩
  · rwa [show riding + (handed + out) = out + riding + handed by abel]
  · obtain ha | ha := Multiset.mem_add.mp ha
    · exact htasks a ha d hd
    · obtain ⟨r, hr, hserial, n, hday⟩ := hriders a (Multiset.mem_add.mpr (.inl ha)) d hd
      exact ⟨r, hr, hserial, by simp [hday]⟩

/-- A change of the store that leaves the lists of the records, or of those that are held, leaves the balance. -/
theorem Balanced.of_store (h : Balanced store riding handed)
    (hback : ∀ q ∈ store', ∀ d n, dayState q.usage.used d = some (.provisional n) →
      ∃ r ∈ store, r.ent.serial = q.ent.serial ∧ dayState r.usage.used d = some (.provisional n))
    (hforth : ∀ r ∈ store, ∀ a ∈ riding + handed, a.serial = r.ent.serial → a.heldDay.isSome = true →
      ∃ q ∈ store', q.ent.serial = r.ent.serial ∧ q.usage.used = r.usage.used) : Balanced store' riding handed := by
  obtain ⟨hcounts, hriders, htasks⟩ := h
  refine ⟨fun q hq d n hday => ?_, fun a ha d hd => ?_, fun a ha d hd => ?_⟩
  · obtain ⟨r, hr, hserial, hday⟩ := hback q hq d n hday
    rw [← hserial]
    exact hcounts r hr d n hday
  · obtain ⟨r, hr, hserial, n, hday⟩ := hriders a ha d hd
    obtain ⟨q, hq, hserial', hused⟩ := hforth r hr a (Multiset.mem_add.mpr (.inl ha)) hserial.symm (by simp [hd])
    exact ⟨q, hq, hserial'.trans hserial, n, hused ▸ hday⟩
  · obtain ⟨r, hr, hserial, hday⟩ := htasks a ha d hd
    obtain ⟨q, hq, hserial', hused⟩ := hforth r hr a (Multiset.mem_add.mpr (.inr ha)) hserial.symm (by simp [hd])
    exact ⟨q, hq, hserial'.trans hserial, hused ▸ hday⟩

/-- Nothing holds a day that its record's list does not have. -/
theorem Balanced.no_holder (h : Balanced store riding handed) (hwf : Store.wf store) {r : PassRecord} (hr : r ∈ store) {d : Nat}
    (hnone : dayState r.usage.used d = none) : (riding + handed).countP (fun a => a.holds r.ent.serial d = true) = 0 := by
  refine Multiset.countP_eq_zero.mpr fun a ha hholds => ?_
  obtain ⟨hserial, hd⟩ := holds_iff.mp hholds
  have hlisted : ∃ q ∈ store, q.ent.serial = a.serial ∧ (dayState q.usage.used d).isSome = true := by
    obtain ha | ha := Multiset.mem_add.mp ha
    · obtain ⟨q, hq, hq', n, hday⟩ := h.riders a ha d hd
      exact ⟨q, hq, hq', by simp [hday]⟩
    · exact h.tasks a ha d hd
  obtain ⟨q, hq, hq', hday⟩ := hlisted
  obtain rfl := eq_of_serial hwf hr hq (hq'.trans hserial)
  simp [hnone] at hday

/-- One record's list changed at one day, with the holders of that day: the balance asks only for that day. -/
theorem Balanced.setRecord (h : Balanced store riding handed) (hwf : Store.wf store) {r : PassRecord} (hr : r ∈ store)
    {f : PassRecord → PassRecord} (hent : ∀ q, (f q).ent = q.ent) (day : Nat)
    (hothers : ∀ serial d, serial ≠ r.ent.serial ∨ d ≠ day →
      (riding' + handed').countP (fun a => a.holds serial d = true) = (riding + handed).countP (fun a => a.holds serial d = true))
    (hdays : ∀ d, d ≠ day → dayState (f r).usage.used d = dayState r.usage.used d)
    (hday : ∀ n, dayState (f r).usage.used day = some (.provisional n) →
      1 ≤ n ∧ n = (riding' + handed').countP (fun a => a.holds r.ent.serial day = true))
    (hriding : ∀ a ∈ riding', ∀ d, a.heldDay = some d →
      (a ∈ riding ∧ a.holds r.ent.serial day = false) ∨
        (a.holds r.ent.serial day = true ∧ ∃ n, dayState (f r).usage.used day = some (.provisional n)))
    (hhanded : ∀ a ∈ handed', ∀ d, a.heldDay = some d →
      (a ∈ handed ∧ a.holds r.ent.serial day = false) ∨
        (a.holds r.ent.serial day = true ∧ (dayState (f r).usage.used day).isSome = true)) :
    Balanced (updateRecord store r.ent.serial f) riding' handed' := by
  have hmem {q : PassRecord} (hq : q ∈ store) :
      (if q.ent.serial = r.ent.serial then f q else q) ∈ updateRecord store r.ent.serial f := List.mem_map_of_mem hq
  have hfr : f r ∈ updateRecord store r.ent.serial f := by simpa using hmem hr
  have hother {q : PassRecord} (hq : q ∈ store) (hne : q.ent.serial ≠ r.ent.serial) : q ∈ updateRecord store r.ent.serial f := by
    simpa [hne] using hmem hq
  have hkept (a : Admission) (d : Nat) (hd : a.heldDay = some d) (hnot : a.holds r.ent.serial day = false) :
      a.serial ≠ r.ent.serial ∨ d ≠ day := by
    by_contra hboth
    simp only [ne_eq, not_or, not_not] at hboth
    obtain ⟨hserial, rfl⟩ := hboth
    simp [holds_iff.mpr ⟨hserial, hd⟩] at hnot
  have hmoved {q : PassRecord} (hq : q ∈ store) {d : Nat} (hne : q.ent.serial ≠ r.ent.serial ∨ d ≠ day) :
      ∃ x ∈ updateRecord store r.ent.serial f, x.ent.serial = q.ent.serial ∧
        dayState x.usage.used d = dayState q.usage.used d := by
    by_cases hserial : q.ent.serial = r.ent.serial
    · obtain rfl := eq_of_serial hwf hr hq hserial
      exact ⟨f q, hfr, by rw [hent], hdays d (hne.resolve_left (· rfl))⟩
    · exact ⟨q, hother hq hserial, rfl, rfl⟩
  refine ⟨fun x hx d n hstate => ?_, fun a ha d hd => ?_, fun a ha d hd => ?_⟩
  · obtain ⟨q, hq, rfl⟩ := List.mem_map.mp hx
    by_cases hserial : q.ent.serial = r.ent.serial
    · obtain rfl := eq_of_serial hwf hr hq hserial
      simp only [if_true, hent] at hstate ⊢
      by_cases hd : d = day
      · subst hd
        exact hday n hstate
      · rw [hdays d hd] at hstate
        rw [hothers _ d (.inr hd)]
        exact h.counts q hq d n hstate
    · simp only [if_neg hserial] at hstate ⊢
      rw [hothers _ d (.inl hserial)]
      exact h.counts q hq d n hstate
  · obtain ⟨ha, hnot⟩ | ⟨hholds, hprovisional⟩ := hriding a ha d hd
    · obtain ⟨q, hq, hserial, n, hstate⟩ := h.riders a ha d hd
      obtain ⟨x, hx, hx', hsame⟩ := hmoved hq (hserial.symm ▸ hkept a d hd hnot)
      exact ⟨x, hx, hx'.trans hserial, n, hsame.trans hstate⟩
    · obtain ⟨hserial, hd'⟩ := holds_iff.mp hholds
      obtain rfl := Option.some.inj (hd.symm.trans hd')
      exact ⟨f r, hfr, by rw [hent, hserial], hprovisional⟩
  · obtain ⟨ha, hnot⟩ | ⟨hholds, hlisted⟩ := hhanded a ha d hd
    · obtain ⟨q, hq, hserial, hstate⟩ := h.tasks a ha d hd
      obtain ⟨x, hx, hx', hsame⟩ := hmoved hq (hserial.symm ▸ hkept a d hd hnot)
      exact ⟨x, hx, hx'.trans hserial, hsame ▸ hstate⟩
    · obtain ⟨hserial, hd'⟩ := holds_iff.mp hholds
      obtain rfl := Option.some.inj (hd.symm.trans hd')
      exact ⟨f r, hfr, by rw [hent, hserial], hlisted⟩

/-! ## Admissions -/

/-- What an admission holds is its own day of its own serial (R44). -/
theorem holds_admissionOf {c : AdmitCtx} {r : PassRecord} {serial d : Nat} (h : (admissionOf c r).holds serial d = true) :
    serial = r.ent.serial ∧ d = c.day := by
  obtain ⟨hserial, hday⟩ := holds_iff.mp h
  refine ⟨hserial.symm, ?_⟩
  have hheld : heldDayOf r.usage c.day = some d := hday
  unfold heldDayOf at hheld
  split at hheld
  · cases hheld
  · exact (Option.some.inj hheld).symm
  · exact (Option.some.inj hheld).symm

/-- The day's state after an admission in SELF or ATTENDED: one holder more, unless it is CONFIRMED (R43). -/
theorem dayState_useDayHeld (used : List UsedDay) (day : Nat) :
    dayState (useDayHeld used day) day =
      match dayState used day with
      | none => some (.provisional 1)
      | some (.provisional h) => some (.provisional (h + 1))
      | some .confirmed => some .confirmed := by
  unfold useDayHeld
  split
  · simp [dayState_insertDay, *]
  · simp [dayState_setDay, *]
  · simp [*]

theorem dayState_useDayHeld_of_ne {used : List UsedDay} {day d : Nat} (hd : d ≠ day) :
    dayState (useDayHeld used day) d = dayState used d := by
  unfold useDayHeld
  split
  · rename_i hnone
    rw [dayState_insertDay hnone, if_neg hd]
  · rw [dayState_setDay, if_neg hd]
  · rfl

theorem admissionOf_holds_self {c : AdmitCtx} {r : PassRecord} (h : dayState r.usage.used c.day ≠ some .confirmed) :
    (admissionOf c r).holds r.ent.serial c.day = true := by
  refine holds_iff.mpr ⟨rfl, ?_⟩
  change heldDayOf r.usage c.day = some c.day
  unfold heldDayOf
  split
  · exact absurd ‹_› h
  · rfl
  · rfl

theorem Balanced.admitHeld (h : Balanced store riding handed) (hwf : Store.wf store) {r : PassRecord} (hr : r ∈ store)
    (c : AdmitCtx) :
    Balanced (updateRecord store r.ent.serial (fun q => q.withUsage (r.usage.admitHeld c))) (admissionOf c r ::ₘ riding) handed := by
  have hstate := dayState_useDayHeld r.usage.used c.day
  have hcount (serial d : Nat) : (admissionOf c r ::ₘ riding + handed).countP (fun a => a.holds serial d = true) =
      (riding + handed).countP (fun a => a.holds serial d = true) + if (admissionOf c r).holds serial d = true then 1 else 0 := by
    rw [Multiset.cons_add, Multiset.countP_cons]
  refine h.setRecord hwf hr (fun _ => rfl) c.day (fun serial d hne => ?_) (fun d hd => dayState_useDayHeld_of_ne hd)
    (fun n hn => ?_) (fun a ha d hd => ?_) (fun a ha d hd => ?_)
  · have hnot : ¬ (admissionOf c r).holds serial d = true := fun hholds => by
      obtain ⟨rfl, rfl⟩ := holds_admissionOf hholds
      exact hne.elim (· rfl) (· rfl)
    rw [hcount, if_neg hnot, Nat.add_zero]
  · replace hn : dayState (useDayHeld r.usage.used c.day) c.day = some (.provisional n) := hn
    rw [hstate] at hn
    rw [hcount]
    split at hn
    · rename_i hnone
      rw [if_pos (admissionOf_holds_self (by simp [hnone])), h.no_holder hwf hr hnone]
      cases hn
      exact ⟨Nat.le_refl _, rfl⟩
    · rename_i m hm
      rw [if_pos (admissionOf_holds_self (by simp [hm]))]
      cases hn
      exact ⟨Nat.le_add_left .., congrArg (· + 1) (h.counts r hr _ m hm).2⟩
    · cases hn
  · by_cases hholds : a.holds r.ent.serial c.day = true
    · refine .inr ⟨hholds, ?_⟩
      change ∃ n, dayState (useDayHeld r.usage.used c.day) c.day = some (.provisional n)
      have hnot : dayState r.usage.used c.day ≠ some .confirmed := fun hconfirmed => by
        obtain ⟨hserial, hday⟩ := holds_iff.mp hholds
        obtain rfl | ha := Multiset.mem_cons.mp ha
        · change heldDayOf r.usage c.day = some c.day at hday
          simp [heldDayOf, hconfirmed] at hday
        · obtain ⟨q, hq, hserial', n, hn⟩ := h.riders a ha _ hday
          obtain rfl := eq_of_serial hwf hr hq (hserial'.trans hserial)
          simp [hconfirmed] at hn
      rw [hstate]
      split
      · exact ⟨_, rfl⟩
      · exact ⟨_, rfl⟩
      · exact absurd ‹_› hnot
    · rw [Bool.not_eq_true] at hholds
      obtain rfl | ha := Multiset.mem_cons.mp ha
      · have hday : d = c.day := (holds_admissionOf (holds_iff.mpr ⟨rfl, hd⟩)).2
        subst hday
        exact absurd (holds_iff.mpr ⟨rfl, hd⟩) (Bool.eq_false_iff.mp hholds)
      · exact .inl ⟨ha, hholds⟩
  · by_cases hholds : a.holds r.ent.serial c.day = true
    · refine .inr ⟨hholds, ?_⟩
      change (dayState (useDayHeld r.usage.used c.day) c.day).isSome = true
      rw [hstate]
      split <;> rfl
    · exact .inl ⟨ha, Bool.eq_false_iff.mpr hholds⟩

/-- An admission in OBSERVE consumes its day as CONFIRMED, if at all (R46). -/
theorem Balanced.admitSettled (h : Balanced store riding handed) (hwf : Store.wf store) {r : PassRecord} (hr : r ∈ store)
    (c : AdmitCtx) :
    Balanced (updateRecord store r.ent.serial (fun q => q.withUsage (r.usage.admitSettled c))) riding handed := by
  by_cases hnone : dayState r.usage.used c.day = none
  · have hused : useDaySettled r.usage.used c.day = insertDay { day := c.day, state := .confirmed } r.usage.used :=
      useDaySettled_of_not_used (by simp [hnone])
    have hstate (d : Nat) : dayState (r.withUsage (r.usage.admitSettled c)).usage.used d =
        if d = c.day then some .confirmed else dayState r.usage.used d := by
      change dayState (useDaySettled r.usage.used c.day) d = _
      rw [hused, dayState_insertDay hnone]
    have hfree (a : Admission) (ha : a ∈ riding + handed) : a.holds r.ent.serial c.day = false :=
      Bool.eq_false_iff.mpr (Multiset.countP_eq_zero.mp (h.no_holder hwf hr hnone) a ha)
    refine h.setRecord hwf hr (fun _ => rfl) c.day (fun _ _ _ => rfl) (fun d hd => (hstate d).trans (if_neg hd))
      (fun n hn => ?_) (fun a ha _ _ => .inl ⟨ha, hfree a (Multiset.mem_add.mpr (.inl ha))⟩)
      (fun a ha _ _ => .inl ⟨ha, hfree a (Multiset.mem_add.mpr (.inr ha))⟩)
    rw [hstate, if_pos rfl] at hn
    cases hn
  · have hused : useDaySettled r.usage.used c.day = r.usage.used :=
      useDaySettled_of_used (Option.isSome_iff_ne_none.mpr hnone)
    refine h.of_store (fun x hx d n hn => ?_) fun q hq a _ _ _ => ?_
    · obtain ⟨q, hq, rfl⟩ := List.mem_map.mp hx
      split_ifs at hn ⊢ with hserial
      · refine ⟨r, hr, hserial.symm, ?_⟩
        change dayState (useDaySettled r.usage.used c.day) d = _ at hn
        rwa [hused] at hn
      · exact ⟨q, hq, rfl, hn⟩
    · refine ⟨_, List.mem_map_of_mem hq, ?_⟩
      split_ifs with hserial
      · obtain rfl := eq_of_serial hwf hr hq hserial
        exact ⟨rfl, hused⟩
      · exact ⟨rfl, rfl⟩

/-! ## Tasks -/

/-- The holder of a day without its held day, where it is the day cleared (R51). -/
def Admission.clearHeld (serial day : Nat) (a : Admission) : Admission :=
  if a.holds serial day then { a with heldDay := none } else a

theorem clearHeld_holds {serial day s d : Nat} (h : s ≠ serial ∨ d ≠ day) (a : Admission) :
    (a.clearHeld serial day).holds s d = a.holds s d := by
  unfold Admission.clearHeld
  split_ifs with hholds
  · obtain ⟨rfl, hday⟩ := holds_iff.mp hholds
    have hnot : a.holds s d = false := Bool.eq_false_iff.mpr fun hother => by
      obtain ⟨rfl, hday'⟩ := holds_iff.mp hother
      obtain rfl := Option.some.inj (hday.symm.trans hday')
      exact h.elim (· rfl) (· rfl)
    rw [hnot]
    simp [Admission.holds]
  · rfl

variable {a : Admission}

theorem countP_cons_holds (serial day : Nat) (m : Multiset Admission) :
    (a ::ₘ m).countP (fun x => x.holds serial day = true) =
      m.countP (fun x => x.holds serial day = true) + if a.holds serial day = true then 1 else 0 :=
  Multiset.countP_cons (p := fun x : Admission => x.holds serial day = true) a m

theorem countP_cons_of_other {serial day : Nat} (hholds : a.holds serial day = true) {s d : Nat} (h : s ≠ serial ∨ d ≠ day)
    (m : Multiset Admission) :
    (a ::ₘ m).countP (fun x => x.holds s d = true) = m.countP (fun x => x.holds s d = true) := by
  rw [countP_cons_holds, if_neg, Nat.add_zero]
  intro hother
  obtain ⟨rfl, hday⟩ := holds_iff.mp hholds
  obtain ⟨rfl, hday'⟩ := holds_iff.mp hother
  obtain rfl := Option.some.inj (hday.symm.trans hday')
  exact h.elim (· rfl) (· rfl)

/-- CONFIRM of a PROVISIONAL day: every rider that held it holds it no more (R50, R51). -/
theorem Balanced.confirm (h : Balanced store riding (a ::ₘ handed)) (hwf : Store.wf store) {r : PassRecord} (hr : r ∈ store)
    {day : Nat} (hholds : a.holds r.ent.serial day = true) {n : Nat} (hday : dayState r.usage.used day = some (.provisional n)) :
    Balanced (updateRecord store r.ent.serial (fun q => q.withUsage { q.usage with used := confirmDay q.usage.used day }))
      (riding.map (Admission.clearHeld r.ent.serial day)) handed := by
  have hstate (d : Nat) :
      dayState (r.withUsage { r.usage with used := confirmDay r.usage.used day }).usage.used d =
      if d = day then some .confirmed else dayState r.usage.used d := by
    change dayState (confirmDay r.usage.used day) d = _
    rw [confirmDay, hday, dayState_setDay]
    split_ifs with hd
    · rw [hd, hday]
      rfl
    · rfl
  refine h.setRecord hwf hr (fun _ => rfl) day (fun serial d hne => ?_) (fun d hd => (hstate d).trans (if_neg hd))
    (fun m hm => ?_) (fun x hx d hd => .inl ?_) (fun x hx d hd => ?_)
  · rw [Multiset.add_cons, countP_cons_of_other hholds hne, Multiset.countP_add, Multiset.countP_add, Multiset.countP_map,
      ← Multiset.countP_eq_card_filter]
    simp only [clearHeld_holds hne]
  · rw [(hstate day).trans (if_pos rfl)] at hm
    cases hm
  · obtain ⟨y, hy, rfl⟩ := Multiset.mem_map.mp hx
    unfold Admission.clearHeld at hd ⊢
    split_ifs at hd ⊢ with hy'
    · exact ⟨hy, Bool.eq_false_iff.mpr hy'⟩
  · by_cases hx' : x.holds r.ent.serial day = true
    · exact .inr ⟨hx', by rw [(hstate day).trans (if_pos rfl)]; rfl⟩
    · exact .inl ⟨Multiset.mem_cons_of_mem hx, Bool.eq_false_iff.mpr hx'⟩

/-- A task whose day is not PROVISIONAL, or that holds none, leaves without a change of any list (R50, R53). -/
theorem Balanced.dropTask (h : Balanced store riding (a ::ₘ handed))
    (hnot : ∀ r ∈ store, ∀ d n, a.holds r.ent.serial d = true → dayState r.usage.used d ≠ some (.provisional n)) :
    Balanced store riding handed := by
  refine ⟨fun r hr d n hn => ?_, h.riders, fun x hx => h.tasks x (Multiset.mem_cons_of_mem hx)⟩
  have hcount := h.counts r hr d n hn
  rwa [Multiset.add_cons, countP_cons_holds, if_neg fun hholds => hnot r hr d n hholds hn] at hcount

/-- VOID of a PROVISIONAL day: a holder less, and without a holder the day leaves the list (R53). -/
theorem Balanced.void (h : Balanced store riding (a ::ₘ handed)) (hwf : Store.wf store) {r : PassRecord} (hr : r ∈ store)
    {day : Nat} (hholds : a.holds r.ent.serial day = true) {n : Nat} (hday : dayState r.usage.used day = some (.provisional n))
    {f : PassRecord → PassRecord} (hent : ∀ q, (f q).ent = q.ent) (hused : (f r).usage.used = voidDay r.usage.used day) :
    Balanced (updateRecord store r.ent.serial f) riding handed := by
  obtain ⟨hpos, hcount⟩ := h.counts r hr day n hday
  rw [Multiset.add_cons, countP_cons_holds, if_pos hholds] at hcount
  have hstate (d : Nat) : dayState (f r).usage.used d =
      if d = day then (if n ≤ 1 then none else some (.provisional (n - 1))) else dayState r.usage.used d := by
    rw [hused, voidDay, hday]
    dsimp only
    split_ifs with hn hd hd
    · rw [dayState_removeDay, if_pos hd]
    · rw [dayState_removeDay, if_neg hd]
    · rw [dayState_setDay, if_pos hd, hd, hday]
      rfl
    · rw [dayState_setDay, if_neg hd]
  have hnone (hn : n ≤ 1) (x : Admission) (hx : x ∈ riding + handed) : x.holds r.ent.serial day = false := by
    have hzero : (riding + handed).countP (fun x => x.holds r.ent.serial day = true) = 0 := by omega
    exact Bool.eq_false_iff.mpr (Multiset.countP_eq_zero.mp hzero x hx)
  refine h.setRecord hwf hr hent day (fun serial d hne => ?_) (fun d hd => (hstate d).trans (if_neg hd))
    (fun m hm => ?_) (fun x hx d hd => ?_) (fun x hx d hd => ?_)
  · rw [Multiset.add_cons, countP_cons_of_other hholds hne]
  · rw [hstate, if_pos rfl] at hm
    split_ifs at hm with hn
    cases hm
    omega
  · by_cases hn : n ≤ 1
    · exact .inl ⟨hx, hnone hn x (Multiset.mem_add.mpr (.inl hx))⟩
    · by_cases hx' : x.holds r.ent.serial day = true
      · exact .inr ⟨hx', n - 1, by rw [hstate, if_pos rfl, if_neg hn]⟩
      · exact .inl ⟨hx, Bool.eq_false_iff.mpr hx'⟩
  · by_cases hn : n ≤ 1
    · exact .inl ⟨Multiset.mem_cons_of_mem hx, hnone hn x (Multiset.mem_add.mpr (.inr hx))⟩
    · by_cases hx' : x.holds r.ent.serial day = true
      · exact .inr ⟨hx', by rw [hstate, if_pos rfl, if_neg hn]; rfl⟩
      · exact .inl ⟨Multiset.mem_cons_of_mem hx, Bool.eq_false_iff.mpr hx'⟩

/-- The start-up scan, with nobody in flight (R5, R176). -/
theorem Balanced.scan (h : Balanced store 0 handed) : Balanced (scanStore store) 0 handed := by
  refine ⟨fun x hx d n hn => ?_, by simp, fun a ha d hd => ?_⟩
  · obtain ⟨q, -, rfl⟩ := List.mem_map.mp hx
    change dayState (confirmAll q.usage.used) d = _ at hn
    rw [dayState_confirmAll] at hn
    obtain ⟨st, -, hst⟩ := Option.map_eq_some_iff.mp hn
    cases hst
  · obtain ⟨q, hq, hserial, hlisted⟩ := h.tasks a ha d hd
    refine ⟨q.scan, List.mem_map_of_mem hq, hserial, ?_⟩
    change (dayState (confirmAll q.usage.used) d).isSome = true
    rwa [dayState_confirmAll, Option.isSome_map]

end Sys2Proof.Machine
end

section
/-! PROOF. Every command keeps each PROVISIONAL day's holder count equal to the number of its holders (R4, R44, R50, R51, R53,
R131, R176). -/

namespace Sys2Proof.Machine

variable {c : Instr} {s₀ s t : State} {store : List PassRecord}

/-! ## The holders of a state -/

/-- The admissions of the riders in flight. -/
def State.riding (s : State) : Multiset Admission := ∑ k : LaneId, ((s.lane k).admissions : Multiset Admission)

/-- The admission of deferred work that is a task. -/
def Work.admission : Work → Option Admission
  | .task t => some t.pass
  | .request _ => none

/-- The admissions handed over: those of the queued and of the deferred tasks (R21, R25). -/
def Engine.handed (e : Engine) : Multiset Admission :=
  (e.tasks.map Task.pass : Multiset Admission) + (e.deferred.filterMap Work.admission : Multiset Admission)

/-- A write under way does not drop the record of a held day (R131). -/
def Staging.keepsPass (st : Staging) (a : Admission) : Prop :=
  ∀ b w d, st = .committing b w → a.heldDay = some d → homePage a.serial = b.page → ∃ q ∈ w.image, q.ent.serial = a.serial

/-- What the law of the holders says beside the laws of store and engine: `holderLaw_iff`. -/
abbrev HolderHolds (s : State) : Prop :=
  Balanced s.store s.riding s.engine.handed ∧ ∀ a ∈ s.engine.handed, s.staging.keepsPass a

theorem mem_admissions {l : Lane} {a : Admission} : a ∈ l.admissions ↔ ∃ e ∈ l.inflight, e.admission = some a := by
  simp [Lane.admissions]

theorem mem_riding {a : Admission} : a ∈ s.riding ↔ ∃ k, a ∈ (s.lane k).admissions := by
  simp [State.riding, Multiset.mem_sum]

theorem mem_handed {e : Engine} {a : Admission} :
    a ∈ e.handed ↔ (∃ t ∈ e.tasks, t.pass = a) ∨ ∃ w ∈ e.deferred, w.admission = some a := by
  simp [Engine.handed]

theorem countP_riding (s : State) (p : Admission → Bool) :
    s.riding.countP (fun a => p a = true) = ∑ k : LaneId, (s.lane k).admissions.countP p := by
  have hsum := map_sum (Multiset.countPAddMonoidHom fun a => p a = true) (fun k => ((s.lane k).admissions : Multiset Admission))
    Finset.univ
  refine hsum.trans (Finset.sum_congr rfl fun k _ => ?_)
  simp

theorem countP_handed (e : Engine) (serial day : Nat) :
    e.handed.countP (fun a => a.holds serial day = true) =
      e.tasks.countP (fun t => t.pass.holds serial day) + e.deferred.countP (Work.holds serial day) := by
  have hdeferred : (e.deferred.filterMap Work.admission).countP (Admission.holds serial day) =
      e.deferred.countP (Work.holds serial day) := by
    rw [List.countP_filterMap]
    refine List.countP_congr fun w _ => ?_
    cases w <;> simp [Work.admission, Work.holds]
  rw [Engine.handed, Multiset.countP_add, Multiset.coe_countP, Multiset.coe_countP]
  simp only [Bool.decide_eq_true, hdeferred, List.countP_map]
  rfl

theorem holderCount_eq (s : State) (serial day : Nat) :
    s.holderCount serial day = (s.riding + s.engine.handed).countP (fun a => a.holds serial day = true) := by
  rw [State.holderCount, lanes_sum, Multiset.countP_add, countP_riding, countP_handed, Nat.add_assoc]
  simp only [holds_countP]

theorem backed_iff {ok : DayState → Bool} {a : Admission} :
    a.backed store ok = true ↔
      ∀ d, a.heldDay = some d → ∃ r ∈ store, r.ent.serial = a.serial ∧ ∃ st, dayState r.usage.used d = some st ∧ ok st = true := by
  unfold Admission.backed
  cases a.heldDay with
  | none => simp
  | some d => simp [Option.any_eq_true]

theorem entry_backed_iff {e : Entry} : e.backed store = true ↔
    ∀ a, e.admission = some a → a.backed store (fun st => st != .confirmed) = true := by
  unfold Entry.backed Entry.admission
  cases e.kind <;> simp

theorem keeps_iff {st : Staging} {task : Task} : st.keeps task = true ↔ st.keepsPass task.pass := by
  unfold Staging.keepsPass
  cases st with
  | empty => simp [Staging.keeps]
  | opened b mark => simp [Staging.keeps]
  | committing b w =>
    cases hd : task.pass.heldDay with
    | none => simp [Staging.keeps, hd]
    | some d =>
      simp only [Staging.keeps, hd, Staging.committing.injEq]
      by_cases hpage : homePage task.pass.serial = b.page <;> simp [hpage]

/-- The task that deferred work is, if it is one. -/
def Work.task? : Work → Option Task
  | .task t => some t
  | .request _ => none

theorem allTasks_eq (s : State) : s.allTasks = s.engine.tasks ++ s.engine.deferred.filterMap Work.task? := by
  refine congrArg (s.engine.tasks ++ ·) (List.filterMap_congr fun w _ => ?_)
  cases w <;> rfl

theorem mem_allTasks {a : Admission} : (∃ t ∈ s.allTasks, t.pass = a) ↔ a ∈ s.engine.handed := by
  have hwork (w : Work) : w.admission = w.task?.map Task.pass := by cases w <;> rfl
  simp only [allTasks_eq, mem_handed, List.mem_append, List.mem_filterMap, or_and_right, exists_or, hwork, Option.map_eq_some_iff]
  refine or_congr Iff.rfl ⟨?_, ?_⟩
  · rintro ⟨t, ⟨w, hw, ht⟩, ha⟩
    exact ⟨w, hw, t, ht, ha⟩
  · rintro ⟨w, hw, t, ht, ha⟩
    exact ⟨t, ⟨w, hw, ht⟩, ha⟩

theorem balanced_days_iff (hsound : ∀ r ∈ s.store, r.sound) :
    (∀ r ∈ s.store, ∀ u ∈ r.usage.used, u.balanced s r.ent.serial = true) ↔
      ∀ r ∈ s.store, ∀ d n, dayState r.usage.used d = some (.provisional n) →
        1 ≤ n ∧ n = (s.riding + s.engine.handed).countP (fun a => a.holds r.ent.serial d = true) := by
  refine forall₂_congr fun r hr => ?_
  have hday {d : Nat} {st : DayState} := dayState_eq_some_iff (hsound r hr).1 (d := d) (st := st)
  constructor
  · intro h d n hn
    obtain ⟨u, hu, rfl, hstate⟩ := hday.mp hn
    have hu := h u hu
    rw [UsedDay.balanced, hstate] at hu
    rw [← holderCount_eq]
    exact of_decide_eq_true hu
  · intro h u hu
    unfold UsedDay.balanced
    split
    · rename_i n hn
      rw [holderCount_eq]
      exact decide_eq_true (h u.day n (hday.mpr ⟨u, hu, rfl, hn⟩))
    · rfl

theorem holderLaw_iff (hlanes : LaneLaw s) : HolderLaw s ↔ StoreLaw s ∧ EngineLaw s ∧ HolderHolds s := by
  have hstarting : s.phase = .starting → ∀ k : LaneId, (s.lane k).current = .shut ∧ (s.lane k).inflight = [] := by
    intro hphase k
    obtain ⟨hlawful, hshut⟩ := hlanes k
    exact ⟨hshut (.inl hphase), hlawful.2.1 (.inl (hshut (.inl hphase)))⟩
  have hriders : (∀ k : LaneId, ∀ e ∈ (s.lane k).inflight, e.backed s.store = true) ↔
      ∀ a ∈ s.riding, a.backed s.store (fun st => st != .confirmed) = true := by
    simp only [entry_backed_iff, mem_riding, mem_admissions]
    constructor
    · rintro h a ⟨k, e, he, ha⟩
      exact h k e he a ha
    · exact fun h k e he a ha => h a ⟨k, e, he, ha⟩
  have hprovisional {st : DayState} : (st != .confirmed) = true ↔ ∃ n, st = .provisional n := by
    cases st <;> simp
  have htasks : (∀ t ∈ s.allTasks, t.pass.backed s.store (fun _ => true) = true ∧ s.staging.keeps t = true) ↔
      ∀ a ∈ s.engine.handed, a.backed s.store (fun _ => true) = true ∧ s.staging.keepsPass a := by
    simp only [keeps_iff, ← mem_allTasks]
    constructor
    · rintro h a ⟨t, ht, rfl⟩
      exact h t ht
    · exact fun h t ht => h t.pass ⟨t, ht, rfl⟩
  unfold HolderLaw HolderHolds
  rw [hriders, htasks]
  constructor
  · rintro ⟨hstore, hengine, hdays, hriding, hhanded, -⟩
    refine ⟨hstore, hengine, ⟨(balanced_days_iff hstore.2.1).mp hdays, fun a ha d hd => ?_, fun a ha d hd => ?_⟩,
      fun a ha => (hhanded a ha).2⟩
    · obtain ⟨r, hr, hserial, st, hst, hok⟩ := backed_iff.mp (hriding a ha) d hd
      obtain ⟨n, rfl⟩ := hprovisional.mp hok
      exact ⟨r, hr, hserial, n, hst⟩
    · obtain ⟨r, hr, hserial, st, hst, -⟩ := backed_iff.mp (hhanded a ha).1 d hd
      exact ⟨r, hr, hserial, by simp [hst]⟩
  · rintro ⟨hstore, hengine, ⟨hdays, hriding, hhanded⟩, hkeeps⟩
    refine ⟨hstore, hengine, (balanced_days_iff hstore.2.1).mpr hdays, fun a ha => backed_iff.mpr fun d hd => ?_,
      fun a ha => ⟨backed_iff.mpr fun d hd => ?_, hkeeps a ha⟩, hstarting⟩
    · obtain ⟨r, hr, hserial, n, hst⟩ := hriding a ha d hd
      exact ⟨r, hr, hserial, _, hst, hprovisional.mpr ⟨n, rfl⟩⟩
    · obtain ⟨r, hr, hserial, hst⟩ := hhanded a ha d hd
      obtain ⟨st, hst⟩ := Option.isSome_iff_exists.mp hst
      exact ⟨r, hr, hserial, st, hst, rfl⟩

/-! ## Events of a lane -/

theorem applyLane_riding (k : LaneId) {o : LaneOut} {as : List Admission} (h : o.carries as) :
    (o.tasks.map Task.pass : Multiset Admission) + (s.applyLane k o).riding + ((s.lane k).admissions : Multiset Admission) =
      s.riding + (as : Multiset Admission) := by
  obtain ⟨hpass, -⟩ := h
  have hothers : ∑ j ∈ Finset.univ.erase k, (((s.applyLane k o).lane j).admissions : Multiset Admission) =
      ∑ j ∈ Finset.univ.erase k, ((s.lane j).admissions : Multiset Admission) :=
    Finset.sum_congr rfl fun j hj => by rw [applyLane_lane, if_neg (Finset.ne_of_mem_erase hj)]
  have hself : ((s.applyLane k o).lane k).admissions = o.lane.admissions := by rw [applyLane_lane, if_pos rfl]
  have hcarried : (o.tasks.map Task.pass : Multiset Admission) + (o.lane.admissions : Multiset Admission) = as := by
    rw [← hpass, Multiset.coe_add]
  unfold State.riding
  rw [← Finset.add_sum_erase _ _ (Finset.mem_univ k), ← Finset.add_sum_erase _ _ (Finset.mem_univ k), hothers, hself, ← hcarried]
  abel

theorem applyLane_handed (k : LaneId) (o : LaneOut) :
    (s.applyLane k o).engine.handed = s.engine.handed + (o.tasks.map Task.pass : Multiset Admission) := by
  have htasks : ((s.applyLane k o).engine.tasks.map Task.pass : Multiset Admission) =
      (s.engine.tasks.map Task.pass : Multiset Admission) + (o.tasks.map Task.pass : Multiset Admission) := by
    simp
  unfold Engine.handed
  rw [htasks, add_right_comm]
  rfl

/-- A PROVISIONAL day is not dropped with its record by the write under way (R131). -/
theorem keepsPass_of_provisional (h : StoreHolds s) {a : Admission}
    (ha : ∀ d, a.heldDay = some d → ∃ r ∈ s.store, r.ent.serial = a.serial ∧ ∃ n, dayState r.usage.used d = some (.provisional n)) :
    s.staging.keepsPass a := by
  intro b w d hs hd hpage
  obtain ⟨-, hall, hstaging⟩ := h
  rw [hs] at hstaging
  obtain ⟨-, -, hw⟩ := lawful_committing_iff.mp hstaging
  obtain ⟨r, hr, hserial, n, hn⟩ := ha d hd
  obtain ⟨u, hu, -, hstate⟩ := (dayState_eq_some_iff (hall r hr).1).mp hn
  have hprovisional : hasProvisional r.usage.used = true := List.any_eq_true.mpr ⟨u, hu, by rw [hstate]⟩
  by_contra hnone
  have hdropped := hw.2.2.2.2 r hr (hserial ▸ hpage) fun q hq heq => hnone ⟨q, hq, heq.trans hserial⟩
  rw [hprovisional] at hdropped
  cases hdropped

/-- What an event of a lane hands over was in flight, with what the event adds. -/
theorem HolderHolds.applyLane {k : LaneId} {o : LaneOut} {new : List Admission} (hstore : StoreHolds s)
    (h : Balanced s.store (s.riding + (new : Multiset Admission)) s.engine.handed)
    (hkeeps : ∀ a ∈ s.engine.handed, s.staging.keepsPass a) (ho : o.carries ((s.lane k).admissions ++ new)) :
    HolderHolds (s.applyLane k o) := by
  have hriding : (o.tasks.map Task.pass : Multiset Admission) + (s.applyLane k o).riding = s.riding + (new : Multiset Admission) := by
    refine add_right_cancel ((applyLane_riding k ho).trans ?_)
    rw [← Multiset.coe_add]
    abel
  rw [← hriding] at h
  refine ⟨?_, fun a ha => ?_⟩
  · rw [applyLane_handed]
    exact h.handOver
  · rw [applyLane_handed] at ha
    obtain ha | ha := Multiset.mem_add.mp ha
    · exact hkeeps a ha
    · exact keepsPass_of_provisional hstore fun d hd => h.riders a (Multiset.mem_add.mpr (.inl ha)) d hd

/-! ## Tasks -/

theorem perm_eraseP_of_find? {p : Task → Bool} {ts : List Task} {task : Task} (h : ts.find? p = some task) :
    ts.Perm (task :: ts.eraseP p) := by
  induction ts with
  | nil => cases h
  | cons x rest ih =>
    by_cases hx : p x = true
    · rw [List.find?_cons_of_pos hx] at h
      rw [List.eraseP_cons_of_pos hx, Option.some.inj h]
    · rw [List.find?_cons_of_neg hx] at h
      rw [List.eraseP_cons_of_neg hx]
      exact ((ih h).cons x).trans (.swap task x _)

/-- The task that is taken is the one that leaves the queue (R22). -/
theorem tasks_perm_dropTask {e : Engine} {task : Task} (h : e.nextTask = some task) : e.tasks.Perm (task :: e.dropTask.tasks) :=
  perm_eraseP_of_find? h

theorem handed_dropTask {e : Engine} {task : Task} (h : e.nextTask = some task) : e.handed = task.pass ::ₘ e.dropTask.handed := by
  have htasks : (e.tasks.map Task.pass : Multiset Admission) = task.pass ::ₘ (e.dropTask.tasks.map Task.pass : Multiset Admission) :=
    Multiset.coe_eq_coe.mpr ((tasks_perm_dropTask h).map Task.pass)
  rw [Engine.handed, htasks, Multiset.cons_add]
  rfl

theorem clearHeld_admissions (serial day : Nat) (l : Lane) :
    (l.clearHeld serial day).admissions = l.admissions.map (Admission.clearHeld serial day) := by
  unfold Lane.admissions Lane.clearHeld
  rw [List.filterMap_map, List.map_filterMap]
  refine List.filterMap_congr fun e _ => ?_
  obtain ⟨kind, at', mark, timeout, release⟩ := e
  cases kind with
  | pass a =>
    simp only [Function.comp, Entry.clearHeld, Entry.admission, Admission.clearHeld, Option.map_some, holds_iff]
    split_ifs <;> rfl
  | free => rfl

theorem serveConfirm_of_provisional {a : Admission} {r : PassRecord} {d n : Nat} (hrec : s.record a.serial = some r)
    (hd : a.heldDay = some d) (hday : dayState r.usage.used d = some (.provisional n)) :
    serveConfirm s a =
      { s.setRecord a.serial (fun q => q.withUsage { q.usage with used := confirmDay q.usage.used d }) with
        lanes := s.lanes.map (Lane.clearHeld a.serial d) } := by
  simp only [serveConfirm, hrec, hd, hday]

/-- A CONFIRM whose held day is not PROVISIONAL changes nothing (R50). -/
theorem serveConfirm_of_not_provisional {a : Admission}
    (h : ∀ r d n, s.record a.serial = some r → a.heldDay = some d → dayState r.usage.used d ≠ some (.provisional n)) :
    serveConfirm s a = s := by
  unfold serveConfirm
  split
  · rename_i r d hrec hd
    split
    · exact absurd ‹_› (h r d _ hrec hd)
    · rfl
    · rfl
  · rfl

theorem void_used {u : Usage} {a : Admission} :
    (u.void a).used = match a.heldDay with
      | none => u.used
      | some d => voidDay u.used d := by
  unfold Usage.void
  dsimp only
  cases a.heldDay <;> split_ifs <;> rfl

theorem voidDay_of_not_provisional {used : List UsedDay} {day : Nat} (h : ∀ n, dayState used day ≠ some (.provisional n)) :
    voidDay used day = used := by
  unfold voidDay
  split
  · exact absurd ‹_› (h _)
  · rfl
  · rfl

/-- Changes of records that leave the used-day lists leave the balance. -/
theorem Balanced.map_sameUsed {riding handed : Multiset Admission} (h : Balanced store riding handed)
    {f : PassRecord → PassRecord} (hf : ∀ q ∈ store, (f q).ent.serial = q.ent.serial ∧ (f q).usage.used = q.usage.used) :
    Balanced (store.map f) riding handed := by
  refine h.of_store (fun x hx d n hn => ?_) fun q hq _ _ _ _ => ⟨f q, List.mem_map_of_mem hq, hf q hq⟩
  obtain ⟨q, hq, rfl⟩ := List.mem_map.mp hx
  obtain ⟨hserial, hused⟩ := hf q hq
  exact ⟨q, hq, hserial.symm, hused ▸ hn⟩

theorem riding_clearHeld (u : State) (serial day : Nat) :
    ({ u with lanes := s.lanes.map (Lane.clearHeld serial day) } : State).riding =
      s.riding.map (Admission.clearHeld serial day) := by
  have hsum := map_sum (Multiset.mapAddMonoidHom (Admission.clearHeld serial day))
    (fun k => ((s.lane k).admissions : Multiset Admission)) Finset.univ
  refine (Finset.sum_congr rfl fun k _ => ?_).trans hsum.symm
  have hlane : ({ u with lanes := s.lanes.map (Lane.clearHeld serial day) } : State).lane k = (s.lane k).clearHeld serial day := by
    simp [State.lane]
  rw [hlane, clearHeld_admissions]
  rfl

/-- A task at its service, taken from the admissions handed over (R50, R52). -/
theorem HolderHolds.serveTask {task : Task} (hstore : StoreHolds s)
    (h : Balanced s.store s.riding (task.pass ::ₘ s.engine.handed)) (hkeeps : ∀ a ∈ s.engine.handed, s.staging.keepsPass a) :
    HolderHolds (serveTask s task) := by
  obtain ⟨hwf, -, -⟩ := hstore
  have hlisted {d : Nat} (hd : task.pass.heldDay = some d) : ∃ r, s.record task.pass.serial = some r ∧ r ∈ s.store ∧
      r.ent.serial = task.pass.serial ∧ (dayState r.usage.used d).isSome = true := by
    obtain ⟨r, hr, hserial, hday⟩ := h.tasks task.pass (Multiset.mem_cons_self ..) d hd
    exact ⟨r, hserial ▸ findRecord_of_mem hwf.1 hr (hwf.2.1 r hr), hr, hserial, hday⟩
  by_cases hprovisional : ∃ r d n, s.record task.pass.serial = some r ∧ task.pass.heldDay = some d ∧
      dayState r.usage.used d = some (.provisional n)
  · obtain ⟨r, d, n, hrec, hd, hday⟩ := hprovisional
    obtain ⟨-, hr, hserial⟩ := record_mem hrec
    have hholds : task.pass.holds r.ent.serial d = true := holds_iff.mpr ⟨hserial.symm, hd⟩
    unfold Machine.serveTask
    split
    · rw [serveConfirm_of_provisional hrec hd hday, ← hserial]
      refine ⟨?_, hkeeps⟩
      rw [riding_clearHeld]
      exact h.confirm hwf hr hholds hday
    · have hvoid : serveVoid s task.pass = s.setRecord r.ent.serial (fun q => q.withUsage (q.usage.void task.pass)) := by
        rw [serveVoid, hrec, hserial]
      rw [hvoid]
      refine ⟨h.void hwf hr hholds hday (fun _ => rfl) ?_, hkeeps⟩
      change (r.usage.void task.pass).used = _
      rw [void_used, hd]
  · have hnot : ∀ r ∈ s.store, ∀ d n, task.pass.holds r.ent.serial d = true → dayState r.usage.used d ≠ some (.provisional n) := by
      intro r hr d n hholds hday
      obtain ⟨hserial, hd⟩ := holds_iff.mp hholds
      exact hprovisional ⟨r, d, n, hserial ▸ findRecord_of_mem hwf.1 hr (hwf.2.1 r hr), hd, hday⟩
    have hdropped := h.dropTask hnot
    unfold Machine.serveTask
    split
    · rw [serveConfirm_of_not_provisional fun r d n hrec hd hday => hprovisional ⟨r, d, n, hrec, hd, hday⟩]
      exact ⟨hdropped, hkeeps⟩
    · unfold serveVoid
      split
      · exact ⟨hdropped, hkeeps⟩
      · rename_i r hrec
        obtain ⟨-, hr, hserial⟩ := record_mem hrec
        refine ⟨hdropped.map_sameUsed fun q hq => ?_, hkeeps⟩
        split_ifs with hq'
        · obtain rfl := eq_of_serial hwf hr hq (hq'.trans hserial.symm)
          refine ⟨rfl, ?_⟩
          change (q.usage.void task.pass).used = _
          rw [void_used]
          split
          · rfl
          · rename_i d hd
            exact voidDay_of_not_provisional fun n hn => hprovisional ⟨q, d, n, hrec, hd, hn⟩
        · exact ⟨rfl, rfl⟩

/-! ## The moves -/

theorem HolderHolds.of_same (h : HolderHolds s) (hstore : t.store = s.store) (hlanes : ∀ k, (t.lane k).admissions = (s.lane k).admissions)
    (hhanded : t.engine.handed = s.engine.handed) (hstaging : t.staging = s.staging) : HolderHolds t := by
  have hriding : t.riding = s.riding := Finset.sum_congr rfl fun k _ => by rw [hlanes]
  unfold HolderHolds
  rwa [hstore, hriding, hhanded, hstaging]

/-- A buffer that is not being written keeps every record (R131). -/
theorem keepsPass_of_free {st : Staging} (h : st.busyPage = none) (a : Admission) : st.keepsPass a := by
  intro b w d hs
  rw [hs] at h
  cases h

theorem HolderHolds.withStaging {st : Staging} (h : HolderHolds s) (hst : st.busyPage = none) :
    HolderHolds { s with staging := st } :=
  ⟨h.1, fun a _ => keepsPass_of_free hst a⟩

/-- Changes of records that leave the used-day lists. -/
theorem HolderHolds.map_sameUsed {f : PassRecord → PassRecord} (h : HolderHolds s)
    (hf : ∀ q ∈ s.store, (f q).ent.serial = q.ent.serial ∧ (f q).usage.used = q.usage.used) :
    HolderHolds { s with store := s.store.map f } :=
  ⟨h.1.map_sameUsed hf, h.2⟩

theorem HolderHolds.flag (h : HolderHolds s) (serial : Nat) (flag : Bool) : HolderHolds (serveFlag s serial flag).state := by
  have hlive : HolderHolds { s with store := liveFlagged s serial flag } := by
    unfold liveFlagged
    split
    · refine h.map_sameUsed fun q _ => ?_
      split_ifs <;> exact ⟨rfl, rfl⟩
    · exact h
  have hkeeps {st : Staging} {f : List Staged → List Staged} {a : Admission} (ha : st.keepsPass a) : (st.mapEntries f).keepsPass a := by
    cases st with
    | empty => exact keepsPass_of_free rfl a
    | opened b mark => exact keepsPass_of_free rfl a
    | committing b w =>
      rintro b' w' d hs hd hpage
      obtain ⟨rfl, rfl⟩ := Staging.committing.inj hs
      exact ha b w d rfl hd hpage
  unfold serveFlag
  dsimp only
  split
  · refine ⟨hlive.1, fun a ha => ?_⟩
    dsimp only
    split
    · exact hkeeps (h.2 a ha)
    · exact h.2 a ha
  · exact h

end Sys2Proof.Machine
end

section
/-! PROOF. The law of the holders over every move (R4, R44, R50, R51, R53, R131, R176). -/

namespace Sys2Proof.Machine

variable {c : Instr} {s₀ s t : State}

theorem HolderHolds.lane {k : LaneId} {o : LaneOut} (h : HolderHolds s) (hstore : StoreHolds s)
    (ho : o.carries (s.lane k).admissions) : HolderHolds (s.applyLane k o) := by
  refine HolderHolds.applyLane (new := []) hstore ?_ h.2 (by rwa [List.append_nil])
  rw [Multiset.coe_nil, add_zero]
  exact h.1

theorem HolderHolds.admitHeld {k : LaneId} {serial : Nat} {r : PassRecord} {consumed : Bool} (h : HolderHolds s) (hstore : StoreHolds s)
    (hrec : s.record serial = some r) (hv : verdict (s.admitCtx k) (some r) = if consumed then .consume else .reride)
    (hbusy : s.meetsBusy (pageOfSerial serial) = false) :
    HolderHolds
      ((s.setRecord serial (fun q => q.withUsage (r.usage.admitHeld (s.admitCtx k)))).applyLane k
        (joinEntry (s.laneCtx k) (s.lane k) (newEntry (s.laneCtx k) (.pass (admissionOf (s.admitCtx k) r))))) := by
  obtain ⟨-, hr, hserial⟩ := record_mem hrec
  have hset := hstore.setFound (f := fun q => q.withUsage (r.usage.admitHeld (s.admitCtx k))) hrec hbusy (fun _ => rfl)
    fun hr => hr.admitHeld hv
  refine HolderHolds.applyLane (new := [admissionOf (s.admitCtx k) r]) hset ?_ h.2 (joinEntry_carries _)
  have hbalanced := h.1.admitHeld hstore.1 hr (s.admitCtx k)
  rw [hserial, ← Multiset.singleton_add, add_comm _ s.riding] at hbalanced
  exact hbalanced

theorem HolderHolds.admitSettled {k : LaneId} {serial : Nat} {r : PassRecord} (h : HolderHolds s) (hstore : StoreHolds s)
    (hrec : s.record serial = some r) :
    HolderHolds (s.setRecord serial (fun q => q.withUsage (r.usage.admitSettled (s.admitCtx k)))) := by
  obtain ⟨-, hr, hserial⟩ := record_mem hrec
  refine ⟨?_, h.2⟩
  have hbalanced := h.1.admitSettled hstore.1 hr (s.admitCtx k)
  rwa [hserial] at hbalanced

/-- The rest of the deferred list after a task that was its head (R25). -/
theorem handed_of_deferred_task {e : Engine} {task : Task} {rest : List Work} (h : e.deferred = .task task :: rest) :
    e.handed = task.pass ::ₘ ({ e with deferred := rest } : Engine).handed := by
  have hcons : (Work.task task :: rest).filterMap Work.admission = task.pass :: rest.filterMap Work.admission := rfl
  unfold Engine.handed
  rw [h, hcons, ← Multiset.cons_coe, Multiset.add_cons]

theorem handed_of_deferred_request {e : Engine} {r : Request} {rest : List Work} (h : e.deferred = .request r :: rest) :
    ({ e with deferred := rest } : Engine).handed = e.handed := by
  unfold Engine.handed
  rw [h, List.filterMap_cons_none rfl]

theorem handed_defer (e : Engine) (w : Work) : (e.defer w).handed = e.handed + (w.admission.toList : Multiset Admission) := by
  have hdeferred : (e.defer w).deferred.filterMap Work.admission = e.deferred.filterMap Work.admission ++ w.admission.toList := by
    rw [Engine.defer, List.filterMap_append]
    cases w <;> rfl
  unfold Engine.handed
  rw [hdeferred, ← Multiset.coe_add, ← add_assoc]
  rfl

theorem handed_leaveTask (e : Engine) : ({ e with tasks := leaveTask e.tasks } : Engine).handed = e.handed := by
  have hpass (ts : List Task) : (leaveTask ts).map Task.pass = ts.map Task.pass := by
    induction ts with
    | nil => rfl
    | cons t rest ih =>
      unfold leaveTask
      split_ifs <;> simp [ih]
  unfold Engine.handed
  rw [hpass]

theorem handed_unleave (e : Engine) : e.unleave.handed = e.handed := by
  have hpass : e.unleave.tasks.map Task.pass = e.tasks.map Task.pass := by
    simp [Engine.unleave]
  unfold Engine.handed
  rw [hpass]
  rfl

/-- A PORT RESET takes requests from the deferred list and no task (R27). -/
theorem handed_portReset (e : Engine) (p : Port) : (e.portReset p).handed = e.handed := by
  have hdeferred : (e.deferred.filter (fun w => !w.isOf p)).filterMap Work.admission = e.deferred.filterMap Work.admission := by
    rw [List.filterMap_filter]
    refine List.filterMap_congr fun w _ => ?_
    cases w with
    | task t => rfl
    | request r => simp [Work.admission]
  unfold Engine.handed
  rw [← hdeferred]
  rfl

/-- While STARTING nobody is in flight (R176). -/
theorem LaneLaw.riding_of_starting (h : LaneLaw s) (hphase : s.phase = .starting) : s.riding = 0 := by
  refine Finset.sum_eq_zero fun k _ => ?_
  obtain ⟨hlawful, hshut⟩ := h k
  have hempty : (s.lane k).inflight = [] := hlawful.2.1 (.inl (hshut (.inl hphase)))
  rw [Lane.admissions, hempty]
  rfl

theorem Effect.holderHolds (h : Effect c s₀ s t) (hlanes : LaneLaw s) (hstore : StoreHolds s) (hs : HolderHolds s) :
    HolderHolds t := by
  cases h
  case lane k o h => exact hs.lane hstore h.carries
  case admitHeld k serial r consumed hstate hroom hrec hv hbusy htasks => exact hs.admitHeld hstore hrec hv hbusy
  case admitSettled k serial r consumed hrec hv hbusy => exact hs.admitSettled hstore hrec
  case flag serial flag => exact hs.flag serial flag
  case opened => exact hs.withStaging rfl
  case put => exact hs.withStaging rfl
  case drop => exact hs.withStaging rfl
  case touched => exact hs.withStaging rfl
  case abandoned => exact (hs.withStaging (st := .empty) rfl).of_same rfl (fun _ => rfl) rfl rfl
  case refunded p serial r j hrec hdays hjournal hbusy =>
    refine (hs.map_sameUsed (f := fun q => if q.ent.serial = r.ent.serial then
      q.refund j (figuresFor (s.tariffOf r.ent.classNo) r j).amount else q) fun q _ => ?_).of_same rfl (fun _ => rfl) rfl rfl
    split_ifs <;> exact ⟨rfl, rfl⟩
  case reference => rw [applyReference_frame]; exact hs
  case configured =>
    rw [storeProfile_frame]
    exact hs.of_same rfl (fun k => by simp [State.lane, enableLane_admissions]) rfl rfl
  case boundary => rw [closeAtBoundary, closeInterval_frame]; exact hs
  case settled => rw [settleDay_frame]; exact hs
  case ready hphase =>
    have hscan : Balanced (scanStore s.store) 0 s.engine.handed := by
      have hbalanced := hs.1
      rw [hlanes.riding_of_starting hphase] at hbalanced
      exact hbalanced.scan
    have hscanned : HolderHolds { s with store := scanStore s.store } := by
      refine ⟨?_, hs.2⟩
      have hriding : ({ s with store := scanStore s.store } : State).riding = 0 := hlanes.riding_of_starting hphase
      rw [hriding]
      exact hscan
    exact hscanned.of_same rfl (fun k => by simp [becomeReady, State.lane, readyLane_admissions]) rfl rfl
  case taskServed task hnext hbusy =>
    have hhanded := handed_dropTask hnext
    refine HolderHolds.serveTask (s := { s with engine := s.engine.dropTask }) hstore (hhanded ▸ hs.1) fun a ha => hs.2 a ?_
    rw [hhanded]
    exact Multiset.mem_cons_of_mem ha
  case deferredTaskServed task rest hd hfree =>
    have hhanded := handed_of_deferred_task hd
    refine HolderHolds.serveTask (s := { s with engine := { s.engine with deferred := rest } }) hstore (hhanded ▸ hs.1)
      fun a ha => hs.2 a ?_
    rw [hhanded]
    exact Multiset.mem_cons_of_mem ha
  case taskDeferred task hnext hbusy hroom =>
    refine hs.of_same rfl (fun _ => rfl) ?_ rfl
    rw [handed_dropTask hnext]
    exact (handed_defer s.engine.dropTask (.task task)).trans (add_comm _ _)
  case taskLeft hbusy => exact hs.of_same rfl (fun _ => rfl) (handed_leaveTask s.engine) rfl
  all_goals exact hs

/-- A page write replaces the records of its page by records with the same lists, and drops none that is held (R131, R133). -/
theorem HolderHolds.written {b : Buffer} {w : PageWrite} (h : HolderHolds s) (hstore : StoreHolds s)
    (hs : s.staging = .committing b w) :
    HolderHolds
      { s with
        store := replacePage s.store b.page (w.image.map (withStagedFlag b.entries))
        staging := .empty
        engine := s.engine.unleave } := by
  obtain ⟨hwf, hall, hstaging⟩ := hstore
  have hstore : StoreHolds s := ⟨hwf, hall, hstaging⟩
  rw [hs] at hstaging
  obtain ⟨hb, -, hw⟩ := lawful_committing_iff.mp hstaging
  have hmem {x : PassRecord} := mem_replacePage hwf.1 (isPage_image hb hw b.entries) (x := x)
  refine ⟨?_, fun a _ => keepsPass_of_free rfl a⟩
  change Balanced _ s.riding s.engine.unleave.handed
  rw [handed_unleave]
  refine h.1.of_store (fun x hx d n hn => ?_) fun r hr a ha hserial hheld => ?_
  · obtain hx | ⟨hx, -⟩ := hmem.mp hx
    · obtain ⟨q, hq, rfl⟩ := List.mem_map.mp hx
      rw [withStagedFlag_usage] at hn
      rw [withStagedFlag_serial]
      by_cases hlive : ∃ r ∈ s.store, r.ent.serial = q.ent.serial
      · obtain ⟨r, hr, hserial⟩ := hlive
        exact ⟨r, hr, hserial, hw.2.2.1 q hq r hr hserial ▸ hn⟩
      · have hempty := hw.2.2.2.1 q hq fun r hr heq => hlive ⟨r, hr, heq⟩
        rw [hempty] at hn
        cases hn
    · exact ⟨x, hx, rfl, hn⟩
  · by_cases hpage : homePage r.ent.serial = b.page
    · have hkeeps : s.staging.keepsPass a := by
        obtain ha | ha := Multiset.mem_add.mp ha
        · exact keepsPass_of_provisional hstore fun d hd => h.1.riders a ha d hd
        · exact h.2 a ha
      obtain ⟨d, hd⟩ := Option.isSome_iff_exists.mp hheld
      obtain ⟨q, hq, hq'⟩ := hkeeps b w d hs hd (hserial ▸ hpage)
      refine ⟨withStagedFlag b.entries q, hmem.mpr (.inl (List.mem_map_of_mem hq)), ?_, ?_⟩
      · rw [withStagedFlag_serial, hq', hserial]
      · rw [withStagedFlag_usage, hw.2.2.1 q hq r hr (hserial.symm.trans hq'.symm)]
    · exact ⟨r, hmem.mpr (.inr ⟨hr, hpage⟩), rfl, rfl⟩

theorem Move.holderHolds (h : Move c s₀ s t) (h₀ : EngineLaw s₀) (hlanes : LaneLaw s) (hstore : StoreHolds s) (hengine : EngineLaw s)
    (hs : HolderHolds s) : HolderHolds t := by
  cases h
  case effect h => exact h.holderHolds hlanes hstore hs
  case port p ps => cases p <;> exact hs
  case requestDeferred r op hop hbusy hroom =>
    exact hs.of_same rfl (fun _ => rfl) ((handed_defer _ (.request r)).trans (add_zero _)) rfl
  case deferredTaken r rest hd => exact hs.of_same rfl (fun _ => rfl) (handed_of_deferred_request hd) rfl
  case withdrawn p => exact hs.of_same rfl (fun _ => rfl) (handed_portReset s.engine p) rfl
  case begun b mark hstaging hconflict hready hwork =>
    obtain ⟨hdeferred, hnext⟩ := hwork h₀
    have hfree : s.pageBusy = none := by
      rw [pageBusy_eq, hstaging]
      rfl
    have hnone : s.engine.handed = 0 := by
      rw [Engine.handed, hdeferred, hengine.tasks_eq_nil hfree hnext]
      rfl
    refine ⟨hs.1, fun a ha => ?_⟩
    change a ∈ s.engine.handed at ha
    rw [hnone] at ha
    exact absurd ha (Multiset.notMem_zero a)
  case written b w hstaging => exact hs.written hstore hstaging
  case writeFailed b w hstaging =>
    refine (hs.withStaging (st := if w.disowned then .empty else .opened b s.elapsed) ?_).of_same rfl (fun _ => rfl)
      (handed_unleave s.engine) rfl
    split <;> rfl
  case stagingReset i =>
    refine ⟨hs.1, fun a ha => ?_⟩
    have hkeeps := hs.2 a ha
    change (s.staging.portReset i).keepsPass a
    unfold Staging.portReset
    split
    · exact keepsPass_of_free rfl a
    · split_ifs <;> exact keepsPass_of_free rfl a
    · rename_i b w hcommitting
      rw [hcommitting] at hkeeps
      split_ifs
      · rintro b' w' d heq hd hpage
        obtain ⟨rfl, rfl⟩ := Staging.committing.inj heq
        exact hkeeps b w d rfl hd hpage
      · exact hkeeps
  case reset =>
    rw [deviceReset_frame]
    have hriding : (resetBlocks s).riding = 0 := by
      refine Finset.sum_eq_zero fun k _ => ?_
      have hlane : (resetBlocks s).lane k = (s.lane k).deviceReset := by simp [resetBlocks, State.lane]
      rw [hlane]
      rfl
    refine ⟨⟨fun x hx d n hn => ?_, fun a ha => ?_, fun a ha => ?_⟩, fun a ha => ?_⟩
    · obtain ⟨q, -, rfl⟩ := List.mem_map.mp hx
      change dayState (confirmAll q.usage.used) d = _ at hn
      rw [dayState_confirmAll] at hn
      obtain ⟨st, -, hst⟩ := Option.map_eq_some_iff.mp hn
      cases hst
    · change a ∈ (resetBlocks s).riding at ha
      rw [hriding] at ha
      exact absurd ha (Multiset.notMem_zero a)
    · exact absurd ha (Multiset.notMem_zero a)
    · exact absurd ha (Multiset.notMem_zero a)
  all_goals exact hs

/-- Settles O25: with the laws of lanes, store and engine every move keeps the balance of the used-day lists. -/
theorem holderLawIsKept : Obligations.HolderLawIsKept := by
  intro s t hlanes hs h
  have hkept := step_keeps_from (P := fun u => LaneLaw u ∧ StoreLaw u ∧ EngineLaw u ∧ HolderHolds u) (fun _ _ hu => hu) ?_
    ⟨hlanes, (holderLaw_iff hlanes).mp hs⟩ h
  · obtain ⟨hlanes', hrest⟩ := hkept
    exact (holderLaw_iff hlanes').mpr hrest
  · rintro c s₀ u v ⟨-, hstore₀, hengine₀, -⟩ ⟨hl, hstore, hengine, hholders⟩ hm
    exact ⟨hm.laneLaw hl, hm.storeLaw hstore₀ hstore, hm.engineLaw hengine₀ hl hengine,
      hm.holderHolds hengine₀ hl (storeLaw_iff.mp hstore).1 hengine hholders⟩

end Sys2Proof.Machine
end

section
/-! PROOF. The response positions of a port (sections 9.3 and 9.4): what its law says of them, and what each event of the port
makes of them. -/

namespace Sys2Proof.Machine

/-! ## Position lists -/

theorem countP_isReserved_eq_zero {qs : List Position} (h : ∀ q ∈ qs, q.isReady = true) :
    qs.countP Position.isReserved = 0 := by
  rw [List.countP_eq_zero]
  intro q hq
  have := h q hq
  cases q <;> simp_all [Position.isReady, Position.isReserved]

theorem busyBehind_of_all_ready {qs : List Position} (h : ∀ q ∈ qs, q.isReady = true) : busyBehind qs = true := by
  induction qs with
  | nil => rfl
  | cons q rest ih =>
    have hq := h q List.mem_cons_self
    cases q <;> simp_all [Position.isReady, busyBehind]

/-- Without a reserved position there is no BUSY response behind one, so that all positions are ready (R157). -/
theorem all_ready_of_busyBehind {qs : List Position} (h : busyBehind qs = true)
    (hnone : qs.countP Position.isReserved = 0) : ∀ q ∈ qs, q.isReady = true := by
  induction qs with
  | nil => simp
  | cons q rest ih =>
    cases q <;> simp_all [busyBehind, Position.isReserved, Position.isReady]

/-- A new last position keeps the order, unless it is a BUSY response that nothing holds back (R157). -/
theorem busyBehind_append {qs : List Position} (q : Position) (h : busyBehind qs = true)
    (hq : (∀ kind tag, q ≠ .busy kind tag) ∨ qs.any Position.isReserved = true) : busyBehind (qs ++ [q]) = true := by
  induction qs with
  | nil => cases q <;> simp_all [busyBehind]
  | cons q' rest ih => cases q' <;> simp_all [busyBehind, Position.isReserved]

theorem readyBusy_all_ready {qs : List Position} (h : qs.countP Position.isReserved = 0) :
    ∀ q ∈ readyBusy qs, q.isReady = true := by
  induction qs with
  | nil => simp [readyBusy]
  | cons q rest ih => cases q <;> simp_all [readyBusy, Position.isReserved, Position.isReady]

/-- The answer of the one reserved position readies it, and every BUSY response behind it (R157, R159). -/
theorem readyBusy_fillReserved_all_ready {qs : List Position} (code : Code) (body : List Byte)
    (h : qs.countP Position.isReserved ≤ 1) : ∀ q ∈ readyBusy (fillReserved code body qs), q.isReady = true := by
  induction qs with
  | nil => simp [fillReserved, readyBusy]
  | cons q rest ih =>
    cases q with
    | ready r => simpa [fillReserved, readyBusy, Position.isReady] using ih (by simpa [Position.isReserved] using h)
    | busy kind tag => simpa [fillReserved, readyBusy, Position.isReady] using ih (by simpa [Position.isReserved] using h)
    | reserved kind tag =>
      have hrest : rest.countP Position.isReserved = 0 := by
        rw [List.countP_cons_of_pos rfl] at h
        exact Nat.le_zero.mp (Nat.le_of_succ_le_succ h)
      simpa [fillReserved, readyBusy, Position.isReady] using readyBusy_all_ready hrest

theorem length_readyBusy (qs : List Position) : (readyBusy qs).length = qs.length := by
  induction qs with
  | nil => rfl
  | cons q rest ih => cases q <;> simp [readyBusy, ih]

theorem length_fillReserved (code : Code) (body : List Byte) (qs : List Position) :
    (fillReserved code body qs).length = qs.length := by
  induction qs with
  | nil => rfl
  | cons q rest ih => cases q <;> simp [fillReserved, ih]

/-- Without a reserved position there is nothing to fill (R159). -/
theorem fillReserved_of_none_reserved {qs : List Position} (code : Code) (body : List Byte)
    (h : ∀ q ∈ qs, q.isReady = true) : fillReserved code body qs = qs := by
  induction qs with
  | nil => rfl
  | cons q rest ih =>
    have hq := h q List.mem_cons_self
    cases q <;> simp_all [Position.isReady, fillReserved]

/-! ## A port's events -/

/-- How many positions are reserved for a pending request (R157). -/
abbrev PortState.reservedCount (ps : PortState) : Nat := ps.positions.countP Position.isReserved

theorem hasPending_iff {ps : PortState} : ps.hasPending = true ↔ 0 < ps.reservedCount := by
  rw [List.countP_pos_iff, PortState.hasPending, List.any_eq_true]

namespace PortState.lawful

variable {ps : PortState}

/-- Ready positions are lawful (R157). -/
theorem of_all_ready (hlength : ps.positions.length ≤ Config.positionsMax) (h : ∀ q ∈ ps.positions, q.isReady = true)
    (hsending : ps.sending = true → ps.selected = true ∧ ps.firstReady = true) : ps.lawful :=
  ⟨hlength, by rw [countP_isReserved_eq_zero h]; exact Nat.zero_le 1, busyBehind_of_all_ready h, hsending⟩

theorem all_ready (h : ps.lawful) (hnone : ps.reservedCount = 0) : ∀ q ∈ ps.positions, q.isReady = true :=
  all_ready_of_busyBehind h.2.2.1 hnone

/-- A position more leaves the first as it is. -/
theorem firstReady_take (q : Position) (h : ps.firstReady = true) : (ps.take q).firstReady = true := by
  unfold firstReady at h
  split at h
  · rename_i r rest heq
    simp [firstReady, take, heq]
  · cases h

/-- A free position is taken, with at most one reserved, and by a BUSY response only behind the reserved one (R157). -/
theorem take {q : Position} (h : ps.lawful) (hroom : ps.isFull = false)
    (hreserved : ps.reservedCount + [q].countP Position.isReserved ≤ 1)
    (hbusy : (∀ kind tag, q ≠ .busy kind tag) ∨ ps.hasPending = true) : (ps.take q).lawful := by
  obtain ⟨-, -, horder, hsending⟩ := h
  refine ⟨?_, ?_, busyBehind_append q horder hbusy, fun hs => ?_⟩
  · rw [isFull, decide_eq_false_iff_not, Nat.not_le] at hroom
    rw [PortState.take, List.length_append]
    exact hroom
  · simpa only [PortState.take, List.countP_append] using hreserved
  · exact ⟨(hsending hs).1, firstReady_take q (hsending hs).2⟩

theorem answer_all_ready (h : ps.lawful) (code : Code) (body : List Byte) :
    ∀ q ∈ (ps.answer code body).positions, q.isReady = true :=
  readyBusy_fillReserved_all_ready code body h.2.1

theorem answer (h : ps.lawful) (code : Code) (body : List Byte) : (ps.answer code body).lawful := by
  refine of_all_ready ?_ (h.answer_all_ready code body) fun hs => ?_
  · simpa only [PortState.answer, length_readyBusy, length_fillReserved] using h.1
  · obtain ⟨hselected, hfirst⟩ := h.2.2.2 hs
    refine ⟨hselected, ?_⟩
    unfold firstReady at hfirst
    split at hfirst
    · rename_i r rest heq
      simp [firstReady, PortState.answer, heq, fillReserved, readyBusy]
    · cases hfirst

/-- Without a pending request an answer is dropped (R27, R159). -/
theorem answer_eq_self (h : ps.lawful) (hnone : ps.reservedCount = 0) (code : Code) (body : List Byte) :
    ps.answer code body = ps := by
  have hready := h.all_ready hnone
  simp [PortState.answer, fillReserved_of_none_reserved code body hready, readyBusy_of_all_ready hready]

theorem portReset (tag : Byte) : (ps.portReset tag).lawful :=
  of_all_ready (by simp [PortState.portReset, Config.positionsMax]) (by simp [PortState.portReset, Position.isReady])
    (by simp [PortState.portReset])

theorem deviceReset : ps.deviceReset.lawful :=
  of_all_ready (by simp [PortState.deviceReset, PortState.reset]) (by simp [PortState.deviceReset, PortState.reset])
    (by simp [PortState.deviceReset, PortState.reset])

theorem periodEnded (h : ps.lawful) : ps.periodEnded.lawful :=
  ⟨h.1, h.2.1, h.2.2.1, by simp [PortState.periodEnded]⟩

/-- The response clocked out is a ready one, so that the others stand as they did (R160). -/
theorem clockedOut (h : ps.lawful) : ps.clockedOut.lawful ∧ ps.clockedOut.reservedCount = ps.reservedCount := by
  obtain ⟨hlength, hcount, horder, hsending⟩ := id h
  unfold PortState.clockedOut
  split
  · exact ⟨h, rfl⟩
  · rename_i q rest heq
    split
    · rename_i hs
      have hfirst := (hsending hs).2
      rw [firstReady, heq] at hfirst
      rw [heq, List.length_cons] at hlength
      cases q with
      | busy kind tag => cases hfirst
      | reserved kind tag => cases hfirst
      | ready r =>
        rw [heq, List.countP_cons_of_neg (by simp [Position.isReserved])] at hcount
        refine ⟨⟨Nat.le_of_succ_le hlength, hcount, ?_, fun h => nomatch h⟩, ?_⟩
        · simpa only [heq, busyBehind] using horder
        · simp [PortState.reservedCount, heq, Position.isReserved]
    · exact ⟨h, rfl⟩

end PortState.lawful

end Sys2Proof.Machine
end

section
/-! PROOF. Every command keeps the law of the ports: the one reserved position of a port is the one request that the engine or
a page write holds for it (sections 2.2, 2.6 and 9.3). Between the acceptance of a request and its answer or its entry into the
engine the port is owed one response that nothing holds (`PortHolds (some p)`). -/

namespace Sys2Proof.Machine

variable {c : Instr} {s₀ s t : State} {owed : Option Port} {p : Port}

/-! ## Holders -/

/-- How many requests of a port the engine holds (R20, R25). -/
def Engine.holding (e : Engine) (p : Port) : Nat :=
  e.pendingSet.countP (fun r => r.port == p) + e.deferred.countP (fun w => w.isOf p)

/-- How many responses a page write owes a port (R133, R137). -/
def Staging.holding (st : Staging) (p : Port) : Nat :=
  match st with
  | .committing b w => if Port.station b.owner = p ∧ w.disowned = false then 1 else 0
  | .empty => 0
  | .opened _ _ => 0

theorem holdersOf_eq (s : State) (p : Port) : s.holdersOf p = s.engine.holding p + s.staging.holding p := by
  unfold State.holdersOf Engine.holding Staging.holding
  cases s.staging <;> rfl

/-- Each port's law, with a response owed to `owed` that neither the engine nor a page write holds. -/
def PortHolds (owed : Option Port) (s : State) : Prop :=
  ∀ p, (s.port p).lawful ∧
    (s.port p).reservedCount = s.engine.holding p + s.staging.holding p + if owed = some p then 1 else 0

theorem mem_portCycle (p : Port) : p ∈ portCycle := by
  cases p with
  | lane k => decide +revert
  | station i => decide +revert

theorem portLaw_iff : PortLaw s ↔ PortHolds none s := by
  simp only [PortLaw, PortHolds, holdersOf_eq, mem_portCycle, forall_const]
  exact forall_congr' fun _ => by simp

/-- The ports, the engine's requests and the owner of a page write are as they were. -/
theorem PortHolds.of_same (h : PortHolds owed s) (hport : ∀ p, t.port p = s.port p)
    (hengine : ∀ p, t.engine.holding p = s.engine.holding p) (hstaging : ∀ p, t.staging.holding p = s.staging.holding p) :
    PortHolds owed t := fun p => by
  rw [hport, hengine, hstaging]
  exact h p

/-! ## Effects -/

theorem Effect.port (h : Effect c s₀ s t) (p : Port) : t.port p = s.port p := by
  cases h
  case flag => rw [serveFlag_frame]; cases p <;> rfl
  case reference => rw [applyReference_frame]; cases p <;> rfl
  case configured => rw [storeProfile_frame]; cases p <;> rfl
  case boundary => rw [closeAtBoundary, closeInterval_frame]; cases p <;> rfl
  case settled => rw [settleDay_frame]; cases p <;> rfl
  case taskServed => rw [serveTask_frame]; cases p <;> rfl
  case deferredTaskServed => rw [serveTask_frame]; cases p <;> rfl
  all_goals cases p <;> rfl

theorem Engine.holding_leaveRequest (e : Engine) (p q : Port) : (e.leaveRequest p).holding q = e.holding q := by
  have hleft (r : Request) : (if r.port = p then { r with left := true } else r).port = r.port := by split <;> rfl
  simp only [Engine.holding, Engine.leaveRequest, List.countP_map]
  congr 2
  funext r
  rw [Function.comp_apply, hleft]

theorem Effect.engine_holding (h : Effect c s₀ s t) (p : Port) : t.engine.holding p = s.engine.holding p := by
  cases h
  case flag => rw [serveFlag_frame]
  case reference => rw [applyReference_frame]
  case configured => rw [storeProfile_frame]
  case boundary => rw [closeAtBoundary, closeInterval_frame]
  case settled => rw [settleDay_engine]
  case taskServed => rw [serveTask_engine]; rfl
  case deferredTaskServed task rest hd hfree => simp [serveTask_engine, Engine.holding, hd, Work.isOf]
  case taskDeferred => simp [Engine.holding, Engine.defer, Engine.dropTask, Work.isOf]
  case requestLeft q _ => exact Engine.holding_leaveRequest s.engine q p
  all_goals rfl

theorem Staging.holding_mapEntries (st : Staging) (f : List Staged → List Staged) (p : Port) :
    (st.mapEntries f).holding p = st.holding p := by
  cases st <;> rfl

theorem serveFlag_staging_holding (s : State) (serial : Nat) (flag : Bool) (p : Port) :
    (serveFlag s serial flag).state.staging.holding p = s.staging.holding p := by
  unfold serveFlag
  dsimp only
  split
  · dsimp only
    split
    · exact Staging.holding_mapEntries s.staging _ p
    · rfl
  · rfl

theorem Effect.staging_holding (h : Effect c s₀ s t) (p : Port) : t.staging.holding p = s.staging.holding p := by
  cases h
  case flag serial flag => exact serveFlag_staging_holding s serial flag p
  case reference => rw [applyReference_frame]
  case configured => rw [storeProfile_frame]
  case boundary => rw [closeAtBoundary, closeInterval_frame]
  case settled => rw [settleDay_staging]
  case opened hs _ _ => rw [hs]; rfl
  case put hs _ _ _ => rw [hs]; rfl
  case drop hs => rw [hs]; rfl
  case touched hs => rw [hs]; rfl
  case abandoned hs => rw [hs]; rfl
  case taskServed => rw [serveTask_frame]
  case deferredTaskServed => rw [serveTask_frame]
  all_goals rfl

theorem Effect.portHolds (h : Effect c s₀ s t) (hs : PortHolds owed s) : PortHolds owed t :=
  hs.of_same h.port h.engine_holding h.staging_holding

theorem Effects.portHolds (h : Effects c s₀ s t) (hs : PortHolds owed s) : PortHolds owed t :=
  h.keeps (fun _ _ hu he => he.portHolds hu) hs

/-! ## Ports -/

/-- A port set to a lawful one with its reserved positions accounted for. -/
theorem PortHolds.setPort (h : PortHolds owed s) {owed' : Option Port} {ps : PortState} (hlawful : ps.lawful)
    (hcount : ps.reservedCount + (if owed = some p then 1 else 0) =
      (s.port p).reservedCount + if owed' = some p then 1 else 0)
    (hother : ∀ q, q ≠ p → (owed' = some q ↔ owed = some q)) : PortHolds owed' (s.setPort p ps) := by
  intro q
  rw [setPort_port, setPort_engine, setPort_staging]
  by_cases hq : q = p
  · subst hq
    rw [if_pos rfl]
    refine ⟨hlawful, ?_⟩
    have := (h q).2
    omega
  · rw [if_neg hq]
    simpa only [hother q hq] using h q

/-- What leaves the number of reserved positions. -/
theorem PortHolds.setPort_of_reservedCount (h : PortHolds owed s) {ps : PortState} (hlawful : ps.lawful)
    (hcount : ps.reservedCount = (s.port p).reservedCount) : PortHolds owed (s.setPort p ps) :=
  h.setPort hlawful (by rw [hcount]) fun _ _ => Iff.rfl

theorem reservedCount_take (ps : PortState) (q : Position) :
    (ps.take q).reservedCount = ps.reservedCount + [q].countP Position.isReserved := List.countP_append

/-- A frame accepted at a free port is owed its response (R157). -/
theorem PortHolds.reserve (h : PortHolds none s) (kind tag : Byte) (hroom : (s.port p).isFull = false)
    (hnone : (s.port p).hasPending = false) :
    PortHolds (some p) (s.setPort p ((s.port p).take (.reserved kind tag))) := by
  have hzero : (s.port p).reservedCount = 0 := by
    rw [← Nat.le_zero, ← Nat.not_lt, ← hasPending_iff, hnone]
    exact Bool.false_ne_true
  refine h.setPort ((h p).1.take hroom ?_ (.inl fun _ _ hq => nomatch hq)) ?_ fun q hq => ?_
  · rw [hzero]
    exact Nat.le_refl 1
  · rw [reservedCount_take, hzero]
    simp [Position.isReserved]
  · simpa using Ne.symm hq

/-- A response owed is given (R159). -/
theorem PortHolds.respond (h : PortHolds (some p) s) (code : Code) (body : List Byte) :
    PortHolds none (s.respond p code body) := by
  have hlawful := (h p).1
  refine h.setPort (hlawful.answer code body) ?_ fun q hq => ?_
  · have hone := hlawful.2.1
    have hcount := (h p).2
    rw [if_pos rfl] at hcount
    have hzero : ((s.port p).answer code body).reservedCount = 0 :=
      countP_isReserved_eq_zero (hlawful.answer_all_ready code body)
    simp only [hzero, if_true, reduceCtorEq, if_false]
    change (s.port p).reservedCount ≤ 1 at hone
    omega
  · simpa using Ne.symm hq

/-- A response that a reset has disowned is dropped (R27, R159). -/
theorem PortHolds.respond_dropped (h : PortHolds none s) (hnone : (s.port p).reservedCount = 0) (code : Code)
    (body : List Byte) : PortHolds none (s.respond p code body) := by
  rw [State.respond, (h p).1.answer_eq_self hnone code body, setPort_port_self]
  exact h

/-- What a port makes of a frame, if a frame that it accepts comes to what is owed no response (R157). -/
theorem PortHolds.receive (h : PortHolds none s) (kind tag : Byte) {judge : State → State}
    (hjudge : ∀ u, PortHolds (some p) u → PortHolds none (judge u)) : PortHolds none (s.receive p kind tag judge) := by
  unfold State.receive
  dsimp only
  split
  · exact h
  · rename_i hroom
    rw [Bool.not_eq_true] at hroom
    split
    · rename_i hpending
      refine h.setPort_of_reservedCount ((h p).1.take hroom ?_ (.inr hpending)) ?_
      · exact (h p).1.2.1
      · exact reservedCount_take ..
    · exact hjudge _ (h.reserve kind tag hroom (Bool.not_eq_true _ ▸ ‹_›))

/-- A request of a known kind (R158). -/
theorem PortHolds.request (h : PortHolds none s) (k : Kind) (tag : Byte) {serve : State → State}
    (hserve : ∀ u, u.phase = .ready → PortHolds (some p) u → PortHolds none (serve u)) :
    PortHolds none (s.request p k tag serve) :=
  h.receive k.code tag fun u hu => by
    unfold State.judge
    split
    · exact hu.respond _ _
    · split
      · exact hu.respond _ _
      · rename_i hready
        refine hserve u ?_ hu
        cases hphase : u.phase with
        | starting => exact absurd hphase hready
        | ready => rfl

end Sys2Proof.Machine
end

section
/-! PROOF. Every command keeps the law of the ports: the engine's taking of requests, the end of a page write, PORT RESET, and
the commands. -/

namespace Sys2Proof.Machine

variable {c : Instr} {s₀ s t : State} {owed : Option Port} {p : Port}

/-! ## The engine -/

/-- A change of the engine and of a page write that moves what is owed. -/
theorem PortHolds.transfer (h : PortHolds owed s) {owed' : Option Port} (hport : ∀ q, t.port q = s.port q)
    (hcount : ∀ q, t.engine.holding q + t.staging.holding q + (if owed' = some q then 1 else 0) =
      s.engine.holding q + s.staging.holding q + if owed = some q then 1 else 0) : PortHolds owed' t := by
  intro q
  rw [hport, hcount]
  exact h q

theorem countP_insertRequest (f : Request → Bool) (r : Request) (rs : List Request) :
    (insertRequest r rs).countP f = rs.countP f + [r].countP f := by
  induction rs with
  | nil => simp [insertRequest]
  | cons q rest ih =>
    unfold insertRequest
    split
    · rw [List.countP_cons (a := r), List.countP_singleton]
    · rw [List.countP_cons, List.countP_cons, ih]
      exact Nat.add_right_comm ..

/-- A request of a port counts for that port alone. -/
theorem countP_port_singleton (r : Request) (q : Port) :
    [r].countP (fun r => r.port == q) = if r.port = q then 1 else 0 := by
  simp [List.countP_singleton]

/-- A request that joins the pending set holds what its port is owed (R20). -/
theorem PortHolds.enqueue {r : Request} (h : PortHolds (some r.port) s) : PortHolds none (s.enqueue r) :=
  h.transfer (fun _ => by rfl) fun q => by
    simp only [State.enqueue, Engine.holding, countP_insertRequest, countP_port_singleton, Option.some.injEq,
      reduceCtorEq, if_false]
    omega

/-- A request of the pending set is the one request that the engine or a page write holds for its port (R20). -/
theorem PortHolds.holding_of_pending (h : PortHolds none s) {r : Request} (hr : r ∈ s.engine.pendingSet) :
    s.engine.pendingSet.countP (fun r' => r'.port == r.port) = 1 ∧
      s.engine.deferred.countP (fun w => w.isOf r.port) = 0 ∧ s.staging.holding r.port = 0 := by
  obtain ⟨hlawful, hcount⟩ := h r.port
  have hone : (s.port r.port).reservedCount ≤ 1 := hlawful.2.1
  have hpos : 0 < s.engine.pendingSet.countP (fun r' => r'.port == r.port) :=
    List.countP_pos_iff.mpr ⟨r, hr, beq_self_eq_true _⟩
  simp only [Engine.holding, reduceCtorEq, if_false] at hcount
  omega

theorem countP_filter_port (rs : List Request) (p q : Port) :
    (rs.filter (fun r => r.port != p)).countP (fun r => r.port == q) =
      if q = p then 0 else rs.countP (fun r => r.port == q) := by
  rw [List.countP_filter]
  split
  · rename_i hq
    subst hq
    simp
  · rename_i hq
    congr 1
    funext r
    by_cases hr : r.port = q <;> simp [hr, hq]

/-- A request taken from the pending set is owed its response (R23). -/
theorem PortHolds.takeRequest (h : PortHolds none s) {r : Request} (hr : r ∈ s.engine.pendingSet) :
    PortHolds (some r.port) { s with engine := s.engine.takeRequest r.port } := by
  obtain ⟨hpending, hdeferred, hstaging⟩ := h.holding_of_pending hr
  refine h.transfer (fun q => by cases q <;> rfl) fun q => ?_
  simp only [Engine.holding, Engine.takeRequest, countP_filter_port, Option.some.injEq, reduceCtorEq, if_false]
  by_cases hq : q = r.port
  · subst hq
    simp only [if_true]
    omega
  · simp only [if_neg hq, if_neg (Ne.symm hq)]

/-- A request taken from the deferred list is owed its response (R25). -/
theorem PortHolds.takeDeferred (h : PortHolds none s) {r : Request} {rest : List Work}
    (hd : s.engine.deferred = .request r :: rest) :
    PortHolds (some r.port) { s with engine := { s.engine with deferred := rest } } := by
  refine h.transfer (fun q => by cases q <;> rfl) fun q => ?_
  simp only [Engine.holding, hd, List.countP_cons, Work.isOf, beq_iff_eq, Option.some.injEq, reduceCtorEq, if_false]
  omega

/-- A request that joins the deferred list holds what its port is owed (R24). -/
theorem PortHolds.defer {r : Request} (h : PortHolds (some r.port) s) :
    PortHolds none { s with engine := s.engine.defer (.request r) } := by
  refine h.transfer (fun q => by cases q <;> rfl) fun q => ?_
  simp only [Engine.holding, Engine.defer, List.countP_append, List.countP_singleton, Work.isOf, beq_iff_eq,
    Option.some.injEq, reduceCtorEq, if_false]
  omega

/-- A write that begins holds what the port of its commit is owed (R133). -/
theorem PortHolds.begin {b : Buffer} {mark : Nat} (h : PortHolds (some (.station b.owner)) s)
    (hs : s.staging = .opened b mark) : PortHolds none (beginWrite s b) := by
  refine h.transfer (fun q => by cases q <;> rfl) fun q => ?_
  rw [hs]
  simp [beginWrite, Staging.holding]

/-! ## A request at its service -/

/-- A request that is owed its response is answered or begins its write (R19). -/
theorem PortHolds.serveRequest (h : PortHolds (some p) s) {k : Kind} {body : List Byte} {op : EngineOp}
    (hop : engineOp k body = some op) (hs : Serviceable s₀ s op) : PortHolds none (serveRequest s p op) := by
  unfold Machine.serveRequest
  obtain ⟨a, ha, heff⟩ | ⟨i, b, mark, rfl, rfl, hstaging, hb, -⟩ := serveOp_cases (c := .engineTakeWork) p hop hs
  · rw [ha]
    exact (heff.portHolds h).respond _ _
  · rw [hb]
    exact h.begin hstaging

/-- A request that a PORT RESET has disowned is served and its response dropped; no write begins, since the reset has abandoned
its port's buffer (R27, R137, R162). -/
theorem PortHolds.serveRequest_disowned (h : PortHolds none s) (hnone : (s.port p).reservedCount = 0)
    (hbuffer : ∀ b mark, s.staging = .opened b mark → .station b.owner ≠ p) {k : Kind} {body : List Byte} {op : EngineOp}
    (hop : engineOp k body = some op) (hs : Serviceable s₀ s op) : PortHolds none (Machine.serveRequest s p op) := by
  unfold Machine.serveRequest
  obtain ⟨a, ha, heff⟩ | ⟨i, b, mark, rfl, rfl, hstaging, -⟩ := serveOp_cases (c := .engineTakeWork) p hop hs
  · rw [ha]
    have hport : a.state.port p = s.port p :=
      heff.keeps (P := fun u => u.port p = s.port p) (fun _ _ hu he => (he.port p).trans hu) rfl
    exact (heff.portHolds h).respond_dropped (by rw [hport]; exact hnone) _ _
  · exact absurd rfl (hbuffer b mark hstaging)

theorem PortHolds.takePending (h : PortHolds none s) (hnext : s.engine.nextTask = none)
    (hfirst : s.pageBusy ≠ none ∨ s.engine.deferred = []) : PortHolds none (takePending s) := by
  unfold Machine.takePending
  split
  case h_2 => exact h
  case h_1 r hchoose =>
    have hr := (mem_of_choose hchoose).1
    rcases takeRequest_cases s r with ⟨-, heq⟩ | ⟨op, hop, ⟨-, -, heq⟩ | ⟨hbusy, -, heq⟩ | ⟨hbusy, heq⟩⟩ <;> rw [heq]
    · exact (h.takeRequest hr).respond _ _
    · exact (h.takeRequest hr).defer
    · exact (Effect.requestLeft (c := .engineTakeWork) (s₀ := s) r.port (pageBusy_ne_none_of_meetsBusy hbusy)).portHolds h
    · exact (h.takeRequest hr).serveRequest hop (serviceable_of_choose hop hchoose hnext hfirst rfl rfl id rfl hbusy)

theorem PortHolds.takeWork (h : PortHolds none s) : PortHolds none (takeWork s) := by
  rcases takeWork_cases s with ⟨t, hnext, heq⟩ | ⟨w, rest, hnext, hfree, hd, heq⟩ | ⟨hnext, hfirst, heq⟩ <;> rw [heq]
  · exact (takeTask_effects (c := .engineTakeWork) (s₀ := s) hnext).portHolds h
  · cases w with
    | task t =>
      exact (Effect.deferredTaskServed (c := .engineTakeWork) (s₀ := s) t rest hd hfree).portHolds h
    | request r =>
      have htaken := h.takeDeferred hd
      unfold serveWork
      dsimp only
      split
      · rename_i op hop
        exact htaken.serveRequest hop (serviceable_of_deferred hop hd hnext hfree rfl rfl rfl)
      · exact htaken.respond _ _
  · exact h.takePending hnext hfirst

/-! ## The end of a page write -/

theorem Engine.holding_unleave (e : Engine) (p : Port) : e.unleave.holding p = e.holding p := by
  simp only [Engine.holding, Engine.unleave, List.countP_map]
  rfl

/-- The write's end is owed to its owner, unless its port has been reset meanwhile (R135 to R137). -/
theorem PortHolds.endWrite (h : PortHolds none s) {b : Buffer} {w : PageWrite} (hs : s.staging = .committing b w)
    {records : List PassRecord} {st : Staging} (hst : ∀ q, st.holding q = 0) (code : Code) (body : List Byte) :
    PortHolds none (({ s with store := records, staging := st, engine := s.engine.unleave } : State).answerCommit b w code
      body) := by
  have hcount (q : Port) : s.staging.holding q = if Port.station b.owner = q ∧ w.disowned = false then 1 else 0 := by
    rw [hs]
    rfl
  unfold State.answerCommit
  split
  · rename_i hw
    refine h.transfer (fun q => by cases q <;> rfl) fun q => ?_
    rw [hcount, hst, Engine.holding_unleave]
    simp [hw]
  · rename_i hw
    refine PortHolds.respond (h.transfer (fun q => by cases q <;> rfl) fun q => ?_) code body
    rw [hcount, hst, Engine.holding_unleave]
    simp [hw]

theorem PortHolds.postAll (h : PortHolds owed s) (ds : List NoticeDetail) : PortHolds owed (s.postAll ds) :=
  (Effect.posted (c := .idleTimerEnd) (s₀ := s) ds).portHolds h

/-! ## PORT RESET -/

theorem Engine.holding_portReset (e : Engine) (p q : Port) :
    (e.portReset p).holding q = if q = p then 0 else e.holding q := by
  have hdeferred : (e.deferred.filter (fun w => !w.isOf p)).countP (fun w => w.isOf q) =
      if q = p then 0 else e.deferred.countP (fun w => w.isOf q) := by
    rw [List.countP_filter]
    split
    · rename_i hq
      subst hq
      simp
    · rename_i hq
      congr 1
      funext w
      cases w with
      | task t => rfl
      | request r => by_cases hr : r.port = q <;> simp [Work.isOf, hr, hq]
  simp only [Engine.holding, Engine.portReset, countP_filter_port, hdeferred]
  split <;> rfl

theorem Staging.holding_portReset (st : Staging) (i : StationId) (q : Port) :
    (st.portReset i).holding q = if q = .station i then 0 else st.holding q := by
  cases st with
  | empty => simp [Staging.portReset, Staging.holding]
  | opened b mark => by_cases hb : b.owner = i <;> simp [Staging.portReset, Staging.holding, hb]
  | committing b w =>
    by_cases hb : b.owner = i
    · by_cases hq : q = .station i
      · simp [Staging.portReset, Staging.holding, hb, hq]
      · simp [Staging.portReset, Staging.holding, hb, hq, Ne.symm hq]
    · by_cases hq : q = .station i
      · simp [Staging.portReset, Staging.holding, hb, hq]
      · simp [Staging.portReset, Staging.holding, hb, hq]

theorem Staging.holding_lane (st : Staging) (k : LaneId) : st.holding (.lane k) = 0 := by
  cases st <;> simp [Staging.holding]

theorem portReset_port (s : State) (p q : Port) (tag : Byte) :
    (portReset s p tag).port q = if q = p then (s.port p).portReset tag else s.port q := by
  rw [← setPort_port]
  cases p <;> cases q <;> rfl

/-- After its PORT RESET neither the engine nor a page write holds anything for the port (R27, R137). -/
theorem portReset_holding (s : State) (p q : Port) (tag : Byte) :
    (portReset s p tag).engine.holding q + (portReset s p tag).staging.holding q =
      if q = p then 0 else s.engine.holding q + s.staging.holding q := by
  rw [portReset_engine, Engine.holding_portReset]
  cases p with
  | lane k =>
    have hstaging : (portReset s (.lane k) tag).staging = s.staging := rfl
    rw [hstaging]
    split
    · rename_i hq
      rw [hq, Staging.holding_lane]
    · rfl
  | station i =>
    have hstaging : (portReset s (.station i) tag).staging = s.staging.portReset i := rfl
    rw [hstaging, Staging.holding_portReset]
    split <;> rfl

/-- A PORT RESET clears what its port is owed (R162). -/
theorem PortHolds.portReset (h : PortHolds owed s) (howed : ∀ q, owed = some q → q = p) (tag : Byte) :
    PortHolds none (portReset s p tag) := by
  intro q
  rw [portReset_port, portReset_holding]
  by_cases hq : q = p
  · simp only [if_pos hq]
    exact ⟨PortState.lawful.portReset tag, rfl⟩
  · have hnot : owed ≠ some q := fun ho => hq (howed q ho)
    simpa only [if_neg hq, if_neg hnot, reduceCtorEq, if_false] using h q

/-- After a PORT RESET its port owns no OPEN buffer (R137). -/
theorem portReset_not_opened {s : State} {tag : Byte} {b : Buffer} {mark : Nat}
    (h : (portReset s p tag).staging = .opened b mark) : .station b.owner ≠ p := by
  rintro rfl
  change s.staging.portReset b.owner = _ at h
  cases hs : s.staging with
  | empty => simp [hs, Staging.portReset] at h
  | committing b' w =>
    rw [hs, Staging.portReset] at h
    split at h <;> cases h
  | opened b' mark' =>
    rw [hs, Staging.portReset] at h
    split at h
    · cases h
    · rename_i hne
      cases h
      exact hne rfl

/-- The service that meets the reset is of a request the engine held (R27, log entry 40). -/
theorem PortHolds.portResetInService (h : PortHolds none s) (p : Port) (tag : Byte) :
    PortHolds none (portResetInService s p tag) := by
  cases hserving : inService (settleDay s) p with
  | none =>
    rw [portResetInService_none tag hserving]
    exact h.portReset (fun _ hq => nomatch hq) tag
  | some found =>
    obtain ⟨s1, r⟩ := found
    rw [portResetInService_some tag hserving]
    have hsettled : PortHolds none (settleDay s) := (Effect.settled (c := .dayChange) (s₀ := s) (.inl rfl)).portHolds h
    obtain ⟨hnext, rfl, hcases⟩ := inService_cases hserving
    have htaken : PortHolds (some r.port) s1 := by
      obtain ⟨-, rest, hd, rfl⟩ | ⟨-, hchoose, -, rfl⟩ := hcases
      · exact hsettled.takeDeferred hd
      · exact hsettled.takeRequest (mem_of_choose hchoose).1
    have hreset := htaken.portReset (fun _ hq => (Option.some.inj hq).symm) tag
    have hnone : ((Machine.portReset s1 r.port tag).port r.port).reservedCount = 0 := by
      rw [portReset_port, if_pos rfl]
      rfl
    unfold serveWork
    dsimp only
    split
    case h_2 => exact hreset.respond_dropped hnone _ _
    case h_1 op hop =>
      exact hreset.serveRequest_disowned hnone (fun _ _ => portReset_not_opened) hop (serviceable_of_inService hserving hop)

/-! ## Commands -/

theorem PortHolds.requestUnit (h : PortHolds none s) (k : Kind) (tag : Byte) {serve : State → Served}
    (hserve : ∀ u, u.phase = .ready → Effects c s₀ u (serve u).state) :
    PortHolds none (s.requestUnit p k tag serve) :=
  h.request k tag fun u hready hu => ((hserve u hready).portHolds hu).respond _ _

theorem PortHolds.requestEngine (h : PortHolds none s) (k : Kind) (tag : Byte) (body : List Byte) :
    PortHolds none (s.requestEngine p k tag body) :=
  h.request k tag fun _ _ hu => hu.enqueue

theorem portHolds_deviceReset (s : State) : PortHolds none (deviceReset s) := by
  intro q
  rw [deviceReset_port, deviceReset_frame]
  exact ⟨PortState.lawful.deviceReset, rfl⟩

theorem PortEvent.portHolds (h : PortEvent s t) (hs : PortHolds none s) : PortHolds none t := by
  cases h with
  | unknownKind p kind tag => exact hs.receive kind tag fun _ hu => hu.respond _ _
  | frameError p hroom =>
    exact hs.setPort_of_reservedCount ((hs p).1.take hroom (hs p).1.2.1 (.inl fun _ _ hq => nomatch hq))
      (reservedCount_take ..)
  | periodStart p =>
    obtain ⟨hlength, hcount, horder, -⟩ := (hs p).1
    exact hs.setPort_of_reservedCount ⟨hlength, hcount, horder, fun hfirst => ⟨rfl, hfirst⟩⟩ rfl
  | clockedOut p => exact hs.setPort_of_reservedCount (hs p).1.clockedOut.1 (hs p).1.clockedOut.2
  | periodEnd p => exact hs.setPort_of_reservedCount (hs p).1.periodEnded rfl

theorem Runs.portHolds (h : Runs c s t) (hs : PortHolds none s) : PortHolds none t := by
  cases h with
  | unit p k tag serve h => exact hs.requestUnit k tag h
  | engine p k tag body => exact hs.requestEngine k tag body
  | portReset p tag => exact hs.portReset (fun _ hq => nomatch hq) tag
  | portResetInService p tag => exact hs.portResetInService p tag
  | port t h => exact h.portHolds hs
  | work hc => exact ((Effect.settled (c := c) (s₀ := s) (.inr (.inl hc))).portHolds hs).takeWork
  | written b w h => exact (hs.endWrite h (fun _ => rfl) _ _).postAll [.staging b.page .committed]
  | writeFailed b w h =>
    refine (hs.endWrite h (fun q => ?_) _ _).postAll [.staging b.page .failed]
    split <;> rfl
  | effects t h => exact h.portHolds hs
  | reset hc => exact portHolds_deviceReset s
  | periodReset p hc => exact portHolds_deviceReset _

/-- Settles O11: what each class of commands does to the responses that the ports are owed. -/
theorem portLawIsKept : Obligations.PortLawIsKept := by
  intro s t hs ht
  rw [portLaw_iff] at hs ⊢
  obtain rfl | ⟨c, rest, -, hexec⟩ := step_cases ht
  · exact hs
  · exact (exec_runs c hexec).portHolds hs

end Sys2Proof.Machine
end

section
/-! PROOF. What a port answers itself and what it hands to the engine (sections 9.2 and 9.3), and the resets and the start-up
of the device (chapter 11). -/

namespace Sys2Proof.Machine

variable {c : Instr} {s t : State} {p : Port} {kind tag : Byte}

/-! ## Requests -/

theorem ofCode_code (k : Kind) : Kind.ofCode k.code = some k := by
  cases k <;> decide

/-- A request frame other than PORT RESET is received at its port, and judged there by its kind: with what a unit or the engine
makes of it, or as one of no kind (R157, R158). -/
theorem exec_of_parts (h : c.parts = some (p, kind, tag)) :
    ∃ judge, (∀ s, exec c s = .next (s.receive p kind tag judge)) ∧
      ((∃ k serve, kind = k.code ∧ judge = fun u => u.judge p k serve) ∨
        (c = .unknownKind p kind tag ∧ judge = fun u => u.respond p .unknownKind [])) := by
  cases c <;> cases h
  case unknownKind => exact ⟨_, fun _ => rfl, .inr ⟨rfl, rfl⟩⟩
  all_goals exact ⟨_, fun _ => rfl, .inl ⟨_, _, rfl, rfl⟩⟩

theorem exec_parts_pending (h : c.parts = some (p, kind, tag)) (hpending : (s.port p).hasPending = true)
    (hroom : (s.port p).isFull = false) : exec c s = .next (s.setPort p ((s.port p).take (.busy kind tag))) := by
  obtain ⟨judge, hexec, -⟩ := exec_of_parts h
  rw [hexec, receive_pending kind tag judge hroom hpending]

theorem exec_parts_full (h : c.parts = some (p, kind, tag)) (hfull : (s.port p).isFull = true) :
    exec c s = .next s := by
  obtain ⟨judge, hexec, -⟩ := exec_of_parts h
  rw [hexec, receive_full kind tag judge hfull]

/-- A code that names no kind is the one of an UNKNOWN_KIND command (R158). -/
theorem exec_parts_unknown (h : c.parts = some (p, kind, tag)) (hcode : Kind.ofCode kind = none) (hfree : PortFree s p) :
    exec c s = .next (s.answered p kind tag .unknownKind []) := by
  obtain ⟨judge, hexec, ⟨k, serve, rfl, -⟩ | ⟨-, rfl⟩⟩ := exec_of_parts h
  · rw [ofCode_code] at hcode
    cases hcode
  · rw [hexec, receive_free kind tag _ hfree, respond_reserved kind tag _ _ hfree]

/-- A well-formed request whose code names a kind is judged as one of that kind (R158). -/
theorem exec_parts_known {k : Kind} (hwf : c.wellFormed = true) (h : c.parts = some (p, kind, tag))
    (hcode : Kind.ofCode kind = some k) (hfree : PortFree s p) :
    (permitted k p = false → exec c s = .next (s.answered p kind tag .notPermitted [])) ∧
      (permitted k p = true → s.phase = .starting → exec c s = .next (s.answered p kind tag .notReady [])) := by
  obtain ⟨judge, hexec, ⟨k', serve, rfl, rfl⟩ | ⟨rfl, -⟩⟩ := exec_of_parts h
  · rw [ofCode_code, Option.some.injEq] at hcode
    subst hcode
    have hrequest := request_free (s := s) k' tag serve hfree
    rw [State.request] at hrequest
    refine ⟨fun hnot => ?_, fun hmay hstarting => ?_⟩ <;> rw [hexec, hrequest]
    · rw [if_pos hnot]
    · rw [if_neg (by simp [hmay]), if_pos hstarting]
  · simp [Instr.wellFormed, hcode] at hwf

theorem exec_frameError_room (cause : FrameFault) (hroom : (s.port p).isFull = false) :
    exec (.frameError p cause) s = .next (s.answered p 0 0 .frameError []) := by
  change Host.Outcome.next (if (s.port p).isFull = true then s else _) = _
  rw [if_neg (by simp [hroom])]
  rfl

theorem exec_frameError_full (cause : FrameFault) (hfull : (s.port p).isFull = true) :
    exec (.frameError p cause) s = .next s := by
  change Host.Outcome.next (if (s.port p).isFull = true then s else _) = _
  rw [if_pos hfull]

theorem permitted_lane_iff (k : Kind) (j : LaneId) :
    permitted k (.lane j) = true ↔ k = .admitPass ∨ k = .laneStatus ∨ k = .portReset := by
  cases k <;> simp [permitted]

theorem permitted_station_iff (k : Kind) (i : StationId) : permitted k (.station i) = true ↔ k ≠ .admitPass := by
  simp [permitted]

/-- Settles O6: what a port does with a request is decided by its positions, and then by the request's kind alone. -/
theorem portsAnswerBeforeAnyBlock : Obligations.PortsAnswerBeforeAnyBlock :=
  ⟨⟨fun _ _ _ _ _ h => ⟨exec_parts_pending h, exec_parts_full h⟩,
      fun _ _ cause => ⟨exec_frameError_room cause, exec_frameError_full cause⟩⟩,
    fun k => ⟨permitted_lane_iff k, permitted_station_iff k⟩,
    fun _ _ _ _ _ hwf h hfree => ⟨fun hcode => exec_parts_unknown h hcode hfree,
      fun _ hcode => exec_parts_known hwf h hcode hfree⟩⟩

theorem exec_engineParts {k : Kind} {body : List Byte} (h : c.engineParts = some (p, k, tag, body)) (s : State) :
    exec c s = .next (s.requestEngine p k tag body) := by
  cases c <;> cases h <;> rfl

theorem insertRequest_perm (r : Request) (rs : List Request) : (r :: rs).Perm (insertRequest r rs) := by
  induction rs with
  | nil => exact .refl _
  | cons q rest ih =>
    unfold insertRequest
    split
    · exact .refl _
    · exact (List.Perm.swap q r rest).trans (ih.cons q)

/-- Settles O7: the request is inserted at its port's place in the pending set. -/
theorem engineRequestsJoinThePendingSet : Obligations.EngineRequestsJoinThePendingSet := by
  intro c s p k tag body hc hopen hpermitted r
  refine ⟨insertRequest r s.engine.pendingSet, insertRequest_perm r _, ?_⟩
  rw [exec_engineParts hc, requestEngine_open k tag body hopen hpermitted, State.enqueue, setPort_engine]

/-! ## Device resets -/

/-- A device reset keeps of a port whether a select period is under way (R163, log entry 41). -/
theorem resetBlocks_setPort (s : State) {ps qs : PortState} (h : ps.line = qs.line) :
    resetBlocks (s.setPort p ps) = resetBlocks (s.setPort p qs) := by
  have hreset : ps.deviceReset = qs.deviceReset := by rw [PortState.deviceReset, PortState.deviceReset, h]
  cases p <;> simp [resetBlocks, State.setPort, Vector.map_set, hreset]

theorem deviceReset_setPort (s : State) {ps qs : PortState} (h : ps.line = qs.line) :
    deviceReset (s.setPort p ps) = deviceReset (s.setPort p qs) := by
  rw [deviceReset, deviceReset, resetBlocks_setPort s h]

theorem exec_stationRestart_ok {i : StationId} (hopen : Open s (.station i)) :
    exec (.stationRestart (.station i) tag []) s =
      .next (({ s with restartDue := some (restartMark s.restartDue s.elapsed) } : State).answered (.station i) 0x70 tag .ok
        []) :=
  congrArg Host.Outcome.next (requestUnit_answered tag hopen rfl rfl fun _ => rfl)

theorem exec_stationRestart_bad {i : StationId} {body : List Byte} (hopen : Open s (.station i)) (hbody : body ≠ []) :
    exec (.stationRestart (.station i) tag body) s = .next (s.answered (.station i) 0x70 tag .badArgument []) :=
  congrArg Host.Outcome.next (requestUnit_reported tag hopen rfl fun _ => if_neg hbody)

theorem exec_restartDueExpiry (s : State) :
    exec .restartDueExpiry s = .next (if restartOver s.restartDue s.elapsed = true then deviceReset s else s) := rfl

/-- The STATION RESTART's OK response that a select period has clocked out makes its end the reset (R177). -/
theorem selectPeriodEnd_of_restartOk {r : Response} {rest : List Position} {m : Nat} (hdue : s.restartDue = some m)
    (hpositions : (s.port p).positions = .ready r :: rest) (hok : (Position.ready r).isRestartOk = true)
    (hsending : (s.port p).sending = true) :
    ∃ t, exec (.responseClockedOut p) s = .next t ∧
      exec (.selectPeriodEnd p) t = .next (deviceReset (t.setPort p { t.port p with line := .idle })) := by
  let t : State := s.setPort p (s.port p).clockedOut
  have hport : t.port p = (s.port p).clockedOut := by rw [setPort_port, if_pos rfl]
  have hsent : (t.port p).restartSent = true := by
    rw [hport, PortState.clockedOut, hpositions]
    simp [hsending, hok]
  have hmark : t.restartDue = some m := (setPort_restartDue ..).trans hdue
  refine ⟨t, rfl, ?_⟩
  change Host.Outcome.next (if ((t.port p).restartSent && t.restartDue.isSome) = true then _ else _) = _
  rw [if_pos (by simp [hsent, hmark])]
  exact congrArg Host.Outcome.next (deviceReset_setPort t rfl)

/-- Settles O12: the mark by the request's service, the reset by the two events that end the wait. -/
theorem stationRestartBecomesDue : Obligations.StationRestartBecomesDue := by
  refine ⟨fun s i tag body hopen => ⟨?_, exec_stationRestart_bad hopen⟩, fun s m hdue hover => ?_, fun s m hdue hover => ?_,
    fun s hdue => ?_, fun s p tag rest m hdue hpositions hsending =>
      selectPeriodEnd_of_restartOk hdue hpositions rfl hsending⟩
  · rintro rfl
    rw [exec_stationRestart_ok hopen]
    cases s.restartDue <;> rfl
  · rw [exec_restartDueExpiry, hdue, if_pos (by simpa [restartOver] using hover)]
  · rw [exec_restartDueExpiry, hdue, if_neg (by simpa [restartOver] using hover)]
  · rw [exec_restartDueExpiry, hdue, if_neg (by simp [restartOver])]

/-- A device reset closes the open interval at the last-known time, or holds it on a full log (R91, R95). -/
theorem deviceReset_eq (s : State) :
    deviceReset s =
      { resetBlocks s with
        count :=
          if s.count.log.length < 96 then
            s.count.closedAt s.profile s.timebase.lastKnown
              (boundaryAtOrBefore s.profile.intervalMinutes s.profile.rollover s.timebase.lastKnown) .ofStartup
          else s.count.heldAt s.profile s.timebase.lastKnown .ofStartup
        postsInFlight := [s.count.closingPost .ofStartup] } :=
  closeInterval_eq (resetBlocks s) s.timebase.lastKnown .ofStartup s.timebase.lastKnown

theorem deviceReset_lane (s : State) (k : LaneId) : (deviceReset s).lane k = (s.lane k).deviceReset := by
  rw [deviceReset_eq]
  simp [State.lane, resetBlocks]

/-- Settles O13: each block by its own reset, and the count unit by the closing. -/
theorem deviceResetLeaves : Obligations.DeviceResetLeaves := by
  intro s
  refine ⟨deviceReset s, rfl, ?_⟩
  have hports (p : Port) := deviceReset_port s p
  have hnotices (i : StationId) := deviceReset_noticePort s i
  have hlanes (k : LaneId) := deviceReset_lane s k
  rw [deviceReset_eq] at *
  refine ⟨rfl, rfl, rfl, rfl, rfl, hports, hnotices, rfl, hlanes, rfl, rfl, rfl, rfl, ?_, ?_, fun hroom => ?_, fun hfull => ?_⟩
  · dsimp only
    split <;> rfl
  · dsimp only
    split <;> rfl
  · simp only [if_pos hroom, CountUnit.closingPost]
    exact ⟨rfl, rfl, rfl, rfl, fun k => by simp [CountUnit.closedAt, Interval.opened], rfl, rfl, rfl, rfl⟩
  · simp only [if_neg (Nat.not_lt.mpr hfull), CountUnit.closingPost]
    refine ⟨rfl, rfl, ?_, trivial⟩
    simp [CountUnit.heldAt, IntervalFlags.union, IntervalFlags.ofStartup]

/-! ## Start-up -/

theorem becomeReady_lane (s : State) (k : LaneId) :
    (becomeReady s).lane k = readyLane s.profile.lanesEnabled s.elapsed k.val (s.lane k) := by
  simp [becomeReady, State.lane]

/-- The scan leaves no PROVISIONAL day (R5, R176). -/
theorem scanStore_confirmed (store : List PassRecord) :
    ∀ r ∈ scanStore store, ∀ u ∈ r.usage.used, u.state = .confirmed := by
  simp [scanStore, PassRecord.scan, PassRecord.withUsage, confirmAll]

/-- Settles O14: the scan of the store, and each enabled lane's beginning. -/
theorem startupEndsReady : Obligations.StartupEndsReady := by
  refine ⟨fun s hstarting => ⟨becomeReady s, ?_, rfl, scanStore_confirmed s.store, fun k hk => ?_, fun k hk => ?_, rfl⟩,
    fun s hready => ?_⟩
  · exact congrArg Host.Outcome.next (if_pos hstarting)
  · rw [becomeReady_lane, readyLane, if_pos hk, Lane.beginTaking, beginTaking_sensor, beginTaking_sensor]
  · rw [becomeReady_lane, readyLane, if_neg (Nat.not_lt.mpr hk)]
  · exact congrArg Host.Outcome.next (if_neg (by rw [hready]; exact Phase.noConfusion))

/-- Settles O3: the state after reset is concrete, and each law is decided on it. -/
theorem resetStateIsLawful : Obligations.ResetStateIsLawful :=
  ⟨congrArg Host.Outcome.next (by decide +kernel : deviceReset State.factory = State.reset), by decide +kernel, by decide +kernel, by decide +kernel, by decide +kernel, by decide +kernel,
    by decide +kernel, by decide +kernel, by decide +kernel, by decide +kernel, by decide +kernel, by decide +kernel⟩

end Sys2Proof.Machine
end

section
/-! PROOF. The frames of section 9.2: the command that the bytes of a select period are. -/

namespace Sys2Proof.Machine

variable {p : Port} {kind tag : Byte}

/-! ## Sound and unsound frames -/

theorem crcBytes_length (bs : List Byte) : (crcBytes bs).length = 2 := rfl

/-- Fill before a frame is passed over (R155). -/
theorem dropFill (n : Nat) {b : Byte} (hb : b ≠ 0) (bytes : List Byte) :
    (List.replicate n 0 ++ b :: bytes).dropWhile (fun b => b == 0) = b :: bytes := by
  rw [List.dropWhile_append_of_pos (by simp +contextual [List.mem_replicate])]
  exact List.dropWhile_cons_of_neg (by simpa using hb)

theorem commandOfPeriod_fill (n : Nat) : commandOfPeriod p (List.replicate n 0) = none := by
  have hfill : (List.replicate n (0 : Byte)).dropWhile (fun b => b == 0) = [] := by
    rw [List.dropWhile_eq_nil_iff]
    simp +contextual [List.mem_replicate]
  rw [commandOfPeriod, hfill]

theorem commandOfPeriod_mark (n : Nat) (bytes : List Byte) :
    commandOfPeriod p (List.replicate n 0 ++ 0xA5 :: bytes) = some (afterStartMark p bytes) := by
  rw [commandOfPeriod, dropFill n (by decide)]
  rfl

theorem commandOfPeriod_badStart (n : Nat) {b : Byte} (hb : b ≠ 0) (hmark : b ≠ 0xA5) (bytes : List Byte) :
    commandOfPeriod p (List.replicate n 0 ++ b :: bytes) = some (.frameError p .badStart) := by
  rw [commandOfPeriod, dropFill n hb]
  exact congrArg some (if_neg hmark)

theorem afterStartMark_oversize {len : Byte} (hlen : 240 < len.toNat) (bytes : List Byte) :
    afterStartMark p (len :: bytes) = .frameError p .oversize := if_pos hlen

theorem afterStartMark_truncated {len : Byte} (hlen : ¬ len.toNat > Config.requestBodyMax) {bytes : List Byte}
    (hshort : bytes.length < len.toNat + 4) : afterStartMark p (len :: bytes) = .frameError p .truncated := by
  have hshort' : bytes.length < 2 + len.toNat + 2 := by omega
  rw [afterStartMark, if_neg hlen, if_pos hshort']

/-- A frame of a fitting body is decided by its CRC, whatever follows it (R155). -/
theorem afterStartMark_whole (kind tag : Byte) {body crc : List Byte} (hbody : body.length ≤ 240) (hcrc : crc.length = 2)
    (rest : List Byte) :
    afterStartMark p (BitVec.ofNat 8 body.length :: kind :: tag :: (body ++ crc ++ rest)) =
      if crcBytes (BitVec.ofNat 8 body.length :: kind :: tag :: body) = crc then commandOf p kind tag body
      else .frameError p .badCrc := by
  have hlen : (BitVec.ofNat 8 body.length).toNat = body.length := by
    rw [BitVec.toNat_ofNat]
    omega
  have hcovered : (kind :: tag :: (body ++ crc ++ rest)).take (2 + body.length) = kind :: tag :: body := by
    rw [Nat.add_comm, List.take_succ_cons, List.take_succ_cons, List.append_assoc, List.take_left]
  have hsent : ((kind :: tag :: (body ++ crc ++ rest)).drop (2 + body.length)).take 2 = crc := by
    rw [Nat.add_comm, List.drop_succ_cons, List.drop_succ_cons, List.append_assoc, List.drop_left, ← hcrc, List.take_left]
  have hlong : ¬ (kind :: tag :: (body ++ crc ++ rest)).length < 2 + body.length + 2 := by
    simp only [List.length_cons, List.length_append, hcrc]
    omega
  have hfits : ¬ body.length > Config.requestBodyMax := Nat.not_lt.mpr hbody
  unfold afterStartMark
  simp only [hlen, if_neg hfits, if_neg hlong, hcovered, hsent]
  rfl

/-! ## The command of a request frame -/

theorem commandOfPeriod_requestFrame (n : Nat) (kind tag : Byte) {body : List Byte} (hbody : body.length ≤ 240)
    (rest : List Byte) :
    commandOfPeriod p (List.replicate n 0 ++ requestFrame kind tag body ++ rest) = some (commandOf p kind tag body) := by
  have hframe : requestFrame kind tag body ++ rest =
      0xA5 :: BitVec.ofNat 8 body.length :: kind :: tag ::
        (body ++ crcBytes (BitVec.ofNat 8 body.length :: kind :: tag :: body) ++ rest) := by
    simp [requestFrame, requestMark]
  rw [List.append_assoc, hframe, commandOfPeriod_mark, afterStartMark_whole kind tag hbody (crcBytes_length _), if_pos rfl]

/-- A RELEASE body belongs to the row whose action it names (R164). -/
theorem releaseRow_of_fits {a : ReleaseAction} {body : List Byte} (h : releaseFits a body = true) :
    releaseRow body = a ∧ body.length ≤ 240 := by
  rw [releaseFits, Bool.and_eq_true, beq_iff_eq] at h
  exact ⟨h.2, of_decide_eq_true h.1⟩

/-- A well-formed request command is the one of its frame's kind, tag and body (R164). -/
theorem commandOf_of_encode {i : Instr} {frame : List Byte} (hwf : i.wellFormed = true) (h : encode i = some (p, frame)) :
    ∃ kind tag body, frame = requestFrame kind tag body ∧ body.length ≤ 240 ∧ commandOf p kind tag body = i := by
  cases i
  case portReset q tag req =>
    obtain ⟨body, _ | _⟩ := req
    · cases h
      exact ⟨_, tag, body, rfl, of_decide_eq_true hwf, rfl⟩
    · cases h
  case unknownKind q kind tag =>
    cases h
    refine ⟨kind, tag, [], rfl, Nat.zero_le _, ?_⟩
    rw [commandOf, Option.isNone_iff_eq_none.mp hwf]
  case releaseGo | releaseDeny | releaseFree =>
    cases h
    obtain ⟨hrow, hbody⟩ := releaseRow_of_fits hwf
    refine ⟨_, _, _, rfl, hbody, ?_⟩
    rw [commandOf, ofCode_code]
    simp only [hrow]
  all_goals cases h
  all_goals exact ⟨_, _, _, rfl, of_decide_eq_true hwf, by rw [commandOf, ofCode_code]⟩

/-- Settles O4: the frame is decided by its CRC, which it carries, and its kind code names the command. -/
theorem framesSpellTheirCommands : Obligations.FramesSpellTheirCommands := by
  intro i p frame rest n hwf hencode
  obtain ⟨kind, tag, body, rfl, hbody, hi⟩ := commandOf_of_encode hwf hencode
  rw [commandOfPeriod_requestFrame n kind tag hbody, hi]

end Sys2Proof.Machine
end

section
/-! PROOF. The lines of a port (sections 9.1, 9.2 and 9.4): what the bits of a select period leave of a port, and which commands
they bring. Data-in is a run of the line (`Line.run`), and data-out a count of the bits sent. -/

namespace Sys2Proof.Machine

variable {s : State} {p : Port} {phase : Phase}

/-! ## Bits and bytes -/

theorem byteOfBits_bitsOf (b : Byte) : byteOfBits (bitsOf b) = b := by
  revert b
  decide +kernel

/-- The bits of a byte, as the seven that begin it and the one that completes it. -/
theorem bitsOf_split (b : Byte) : ∃ bits x, bitsOf b = bits ++ [x] ∧ bits.length = 7 :=
  ⟨[7, 6, 5, 4, 3, 2, 1].map b.getLsbD, b.getLsbD 0, rfl, rfl⟩

theorem bitsOf_length (b : Byte) : (bitsOf b).length = 8 := rfl

theorem flatMap_bitsOf_length (bytes : List Byte) : (bytes.flatMap bitsOf).length = 8 * bytes.length := by
  induction bytes with
  | nil => rfl
  | cons b rest ih =>
    rw [List.flatMap_cons, List.length_append, ih, bitsOf_length, List.length_cons]
    omega

/-! ## The command of a select period -/

/-- A select period brings no end of a response of its own. -/
theorem commandOf_ne_clockedOut (kind tag : Byte) (body : List Byte) : commandOf p kind tag body ≠ .responseClockedOut p := by
  unfold commandOf
  split
  case h_7 => split <;> exact Instr.noConfusion
  all_goals exact Instr.noConfusion

theorem afterStartMark_ne_clockedOut (bytes : List Byte) : afterStartMark p bytes ≠ .responseClockedOut p := by
  unfold afterStartMark
  split
  · exact Instr.noConfusion
  · split
    · exact Instr.noConfusion
    · split
      · exact Instr.noConfusion
      · dsimp only
        split
        · exact commandOf_ne_clockedOut _ _ _
        · exact Instr.noConfusion

theorem commandOfPeriod_ne_clockedOut {bytes : List Byte} {c : Instr} (h : commandOfPeriod p bytes = some c) :
    c ≠ .responseClockedOut p := by
  unfold commandOfPeriod at h
  split at h
  · cases h
  · cases h
    split
    · exact afterStartMark_ne_clockedOut _
    · exact Instr.noConfusion

/-- Bytes behind a whole frame change nothing (R155). -/
theorem afterStartMark_append {bytes : List Byte} (more : List Byte)
    (h : afterStartMark p bytes ≠ .frameError p .truncated) : afterStartMark p (bytes ++ more) = afterStartMark p bytes := by
  cases bytes with
  | nil => exact absurd rfl h
  | cons len rest =>
    by_cases hover : len.toNat > Config.requestBodyMax
    · simp only [afterStartMark, List.cons_append, if_pos hover]
    · by_cases hshort : rest.length < 2 + len.toNat + 2
      · exact absurd (afterStartMark_truncated hover (by omega)) h
      · have hlong : ¬ (rest ++ more).length < 2 + len.toNat + 2 := by
          rw [List.length_append]
          omega
        have htake : (rest ++ more).take (2 + len.toNat) = rest.take (2 + len.toNat) :=
          List.take_append_of_le_length (by omega)
        have hcrc : ((rest ++ more).drop (2 + len.toNat)).take 2 = (rest.drop (2 + len.toNat)).take 2 := by
          rw [List.drop_append_of_le_length (by omega), List.take_append_of_le_length (by rw [List.length_drop]; omega)]
        simp only [afterStartMark, List.cons_append, if_neg hover, if_neg hshort, if_neg hlong, htake, hcrc]

theorem commandOfPeriod_append {bytes : List Byte} {c : Instr} (more : List Byte) (h : commandOfPeriod p bytes = some c)
    (hc : c ≠ .frameError p .truncated) : commandOfPeriod p (bytes ++ more) = some c := by
  cases hdrop : bytes.dropWhile (fun b => b == 0) with
  | nil =>
    rw [commandOfPeriod, hdrop] at h
    cases h
  | cons b rest =>
    have hmore : (bytes ++ more).dropWhile (fun b => b == 0) = b :: (rest ++ more) := by
      rw [List.dropWhile_append, hdrop]
      rfl
    rw [commandOfPeriod, hdrop] at h
    rw [commandOfPeriod, hmore]
    simp only [Option.some.injEq] at h ⊢
    subst h
    by_cases hb : b = requestMark
    · rw [if_pos hb] at hc ⊢
      rw [if_pos hb]
      exact afterStartMark_append more hc
    · rw [if_neg hb, if_neg hb]

/-! ## Data-in -/

/-- The line after rising edges of clock with these bits, and the commands that they complete. -/
def Line.run (p : Port) (phase : Phase) : Line → List Bool → Line × List Instr
  | l, [] => (l, [])
  | l, x :: xs =>
    let r := l.clock p phase x
    ((Line.run p phase r.1 xs).1, r.2 ++ (Line.run p phase r.1 xs).2)

theorem run_append (l : Line) (xs ys : List Bool) :
    l.run p phase (xs ++ ys) =
      (((l.run p phase xs).1.run p phase ys).1, (l.run p phase xs).2 ++ ((l.run p phase xs).1.run p phase ys).2) := by
  induction xs generalizing l with
  | nil => rfl
  | cons x rest ih => simp only [List.cons_append, Line.run, ih, List.append_assoc]

theorem run_ignoring (xs : List Bool) : Line.ignoring.run p phase xs = (.ignoring, []) := by
  induction xs with
  | nil => rfl
  | cons x rest ih => simp [Line.run, Line.clock, ih]

theorem run_spanned_starting (xs : List Bool) : (Line.spanned []).run p .starting xs = (.spanned [], []) := by
  induction xs with
  | nil => rfl
  | cons x rest ih => simp [Line.run, Line.clock, ih]

/-- Fewer bits than a byte are kept (R154). -/
theorem run_collecting_short (bytes : List Byte) (bits xs : List Bool) (h : bits.length + xs.length < 8) :
    (Line.collecting bytes bits).run p phase xs = (.collecting bytes (bits ++ xs), []) := by
  induction xs generalizing bits with
  | nil => simp [Line.run]
  | cons x rest ih =>
    have hroom : bits.length < 7 := by
      rw [List.length_cons] at h
      omega
    simp only [Line.run, Line.clock, if_pos hroom]
    rw [ih (bits ++ [x]) (by simp only [List.length_append, List.length_cons, List.length_nil] at h ⊢; omega)]
    simp

theorem run_spanned_short (bits xs : List Bool) (h : bits.length + xs.length < 8) :
    (Line.spanned bits).run p .ready xs = (.spanned (bits ++ xs), []) := by
  induction xs generalizing bits with
  | nil => simp [Line.run]
  | cons x rest ih =>
    have hroom : bits.length < 7 := by
      rw [List.length_cons] at h
      omega
    simp only [Line.run, Line.clock, reduceCtorEq, if_false, if_pos hroom]
    rw [ih (bits ++ [x]) (by simp only [List.length_append, List.length_cons, List.length_nil] at h ⊢; omega)]
    simp

/-- Eight bits make a byte (R154). -/
theorem run_collecting_byte (bytes : List Byte) (b : Byte) :
    (Line.collecting bytes []).run p phase (bitsOf b) = Line.takeByte p (bytes ++ [b]) := by
  obtain ⟨bits, x, hbits, hlength⟩ := bitsOf_split b
  have hbyte := byteOfBits_bitsOf b
  rw [hbits] at hbyte
  rw [hbits, run_append, run_collecting_short bytes [] bits (by simp [hlength])]
  simp [Line.run, Line.clock, hlength, hbyte]

theorem run_spanned_byte (b : Byte) :
    (Line.spanned []).run p .ready (bitsOf b) =
      if b = requestMark then (.collecting [requestMark] [], []) else (.spanned [], []) := by
  obtain ⟨bits, x, hbits, hlength⟩ := bitsOf_split b
  have hbyte := byteOfBits_bitsOf b
  rw [hbits] at hbyte
  rw [hbits, run_append, run_spanned_short [] bits (by simp [hlength])]
  simp only [Line.run, Line.clock, hlength, hbyte, reduceCtorEq, if_false, List.nil_append, List.append_nil,
    Nat.lt_irrefl]

theorem takeByte_of_some {bytes : List Byte} {c : Instr} (h : commandOfPeriod p bytes = some c)
    (hc : c ≠ .frameError p .truncated) : Line.takeByte p bytes = (.ignoring, [c]) := by
  simp [Line.takeByte, h, hc]

theorem takeByte_of_unfinished {bytes : List Byte}
    (h : ∀ c, commandOfPeriod p bytes = some c → c = .frameError p .truncated) :
    Line.takeByte p bytes = (.collecting bytes [], []) := by
  unfold Line.takeByte
  split
  · rfl
  · rw [if_pos (h _ ‹_›)]

/-- The period's bytes so far either spell a whole frame, or leave it open. -/
theorem finished_or_unfinished (p : Port) (bytes : List Byte) :
    (∃ c, commandOfPeriod p bytes = some c ∧ c ≠ .frameError p .truncated) ∨
      ∀ c, commandOfPeriod p bytes = some c → c = .frameError p .truncated := by
  by_cases h : ∃ c, commandOfPeriod p bytes = some c ∧ c ≠ .frameError p .truncated
  · exact .inl h
  · exact .inr fun c hc => not_not.mp fun hne => h ⟨c, hc, hne⟩

/-- Whole bytes of a select period come to what the last of them makes of the period, since a frame once taken stands (R155). -/
theorem run_bytes (bytes : List Byte) :
    (Line.collecting [] []).run p phase (bytes.flatMap bitsOf) = Line.takeByte p bytes := by
  induction bytes using List.reverseRecOn with
  | nil => rfl
  | append_singleton bytes b ih =>
    rw [List.flatMap_append, List.flatMap_singleton, run_append, ih]
    obtain ⟨c, hsome, hc⟩ | hopen := finished_or_unfinished p bytes
    · rw [takeByte_of_some hsome hc, takeByte_of_some (commandOfPeriod_append [b] hsome hc) hc, run_ignoring]
      rfl
    · rw [takeByte_of_unfinished hopen, run_collecting_byte]
      rfl

theorem run_spanned_bytes {bytes : List Byte} (h : ∀ b ∈ bytes, b ≠ requestMark) :
    (Line.spanned []).run p .ready (bytes.flatMap bitsOf) = (.spanned [], []) := by
  induction bytes with
  | nil => rfl
  | cons b rest ih =>
    rw [List.flatMap_cons, run_append, run_spanned_byte, if_neg (h b List.mem_cons_self),
      ih fun b' hb' => h b' (List.mem_cons_of_mem b hb')]
    rfl

/-! ## Both directions -/

theorem clock_ne_idle {l : Line} (h : l ≠ .idle) (x : Bool) : (l.clock p phase x).1 ≠ .idle := by
  have htake (bytes : List Byte) : (Line.takeByte p bytes).1 ≠ .idle := by
    unfold Line.takeByte
    split
    · exact Line.noConfusion
    · split <;> exact Line.noConfusion
  cases l with
  | idle => exact absurd rfl h
  | ignoring => exact Line.noConfusion
  | collecting bytes bits =>
    unfold Line.clock
    dsimp only
    split
    · exact Line.noConfusion
    · exact htake _
  | spanned bits =>
    unfold Line.clock
    dsimp only
    split
    · exact Line.noConfusion
    · split
      · exact Line.noConfusion
      · split <;> exact Line.noConfusion

theorem run_ne_idle {l : Line} (h : l ≠ .idle) (xs : List Bool) : (l.run p phase xs).1 ≠ .idle := by
  induction xs generalizing l with
  | nil => exact h
  | cons x rest ih => exact ih (clock_ne_idle h x)

/-- What an edge of data-in brings is no end of a response. -/
theorem clock_ne_clockedOut (l : Line) (x : Bool) : ∀ c ∈ (l.clock p phase x).2, c ≠ .responseClockedOut p := by
  have htake (bytes : List Byte) : ∀ c ∈ (Line.takeByte p bytes).2, c ≠ .responseClockedOut p := by
    unfold Line.takeByte
    split
    · simp
    · rename_i c hc
      have hne := commandOfPeriod_ne_clockedOut hc
      split
      · simp
      · simpa using hne
  cases l with
  | idle => simp [Line.clock]
  | ignoring => simp [Line.clock]
  | collecting bytes bits =>
    unfold Line.clock
    dsimp only
    split
    · simp
    · exact htake _
  | spanned bits =>
    unfold Line.clock
    dsimp only
    split
    · simp
    · split
      · simp
      · split <;> simp

/-- The port after `n` edges that left its line as `ln` (R160). -/
def PortState.clocked (ps : PortState) (n : Nat) (ln : Line) : PortState :=
  { ps with line := ln, sent := if ps.sending = true then ps.sent + n else ps.sent }

/-- The last of the `whole` bits of the response being sent goes out with one of the next `n` edges (R160). -/
abbrev PortState.finishes (ps : PortState) (whole n : Nat) : Prop :=
  ps.sending = true ∧ ps.sent < whole ∧ whole ≤ ps.sent + n

theorem clocked_clocked (ps : PortState) (n : Nat) (ln ln' : Line) : (ps.clocked n ln).clocked 1 ln' = ps.clocked (n + 1) ln' := by
  unfold PortState.clocked
  split <;> rfl

/-- The last bit goes out with an earlier edge or with this one. -/
theorem finishes_succ (ps : PortState) (whole n : Nat) :
    (if ps.finishes whole (n + 1) then 1 else 0) =
      (if ps.finishes whole n then 1 else 0) + if ps.sending = true ∧ ps.sent + (n + 1) = whole then 1 else 0 := by
  by_cases hs : ps.sending = true
  · simp only [PortState.finishes, hs, true_and]
    split_ifs <;> omega
  · simp [PortState.finishes, hs]

theorem clockedState_port (s : State) (p : Port) (n : Nat) (ln : Line) (cs : List Instr) :
    ((s.setPort p ((s.port p).clocked n ln)).arrive cs).port p = (s.port p).clocked n ln := by
  rw [arrive_port, setPort_port, if_pos rfl]

/-- What is sent does not change with the edges that send it (R160). -/
theorem clockedState_outBits (s : State) (p : Port) (n : Nat) (ln : Line) (cs : List Instr) :
    ((s.setPort p ((s.port p).clocked n ln)).arrive cs).outBits p = s.outBits p := by
  unfold State.outBits State.dataOut
  rw [clockedState_port]
  rfl

/-- One edge: the line takes its bit, and the end of the response arrives with its last bit, behind what the line brings (R154,
R160). -/
theorem clockEdge_eq (h : (s.port p).line ≠ .idle) (x : Bool) :
    s.clockEdge p x =
      (s.setPort p ((s.port p).clocked 1 ((s.port p).line.clock p s.phase x).1)).arrive
        (((s.port p).line.clock p s.phase x).2 ++
          if (s.port p).sending = true ∧ (s.port p).sent + 1 = (s.outBits p).length then [.responseClockedOut p] else []) := by
  unfold State.clockEdge State.sendsLast
  dsimp only
  rw [if_neg h]
  simp only [Bool.and_eq_true, beq_iff_eq]
  rfl

/-- What `n` edges of clock come to: the line's run, the bits sent, and, among the commands, those of the line and one end of
the response if its last bit has gone out. -/
structure Clocked (s : State) (p : Port) (n : Nat) (r : Line × List Instr) (cs : List Instr) (t : State) : Prop where
  state : t = (s.setPort p ((s.port p).clocked n r.1)).arrive cs
  requests : cs.filter (fun c => c != .responseClockedOut p) = r.2
  ended : cs.count (.responseClockedOut p) = if (s.port p).finishes (s.outBits p).length n then 1 else 0

theorem Clocked.refl (s : State) (p : Port) : Clocked s p 0 ((s.port p).line, []) [] s where
  state := by
    have hsame : (s.port p).clocked 0 (s.port p).line = s.port p := by
      unfold PortState.clocked
      split <;> rfl
    rw [arrive_nil, hsame, setPort_port_self]
  requests := rfl
  ended := (if_neg fun h => Nat.not_le.mpr h.2.1 h.2.2).symm

theorem Clocked.edge {n : Nat} {r : Line × List Instr} {cs : List Instr} {t : State} (h : Clocked s p n r cs t)
    (hline : r.1 ≠ .idle) (x : Bool) :
    Clocked s p (n + 1) ((r.1.clock p s.phase x).1, r.2 ++ (r.1.clock p s.phase x).2)
      (cs ++ ((r.1.clock p s.phase x).2 ++
        if (s.port p).sending = true ∧ (s.port p).sent + (n + 1) = (s.outBits p).length then [.responseClockedOut p] else []))
      (t.clockEdge p x) := by
  obtain ⟨rfl, hrequests, hended⟩ := h
  have hport := clockedState_port s p n r.1 cs
  have hphase : ((s.setPort p ((s.port p).clocked n r.1)).arrive cs).phase = s.phase := setPort_phase ..
  have hlast : (((s.port p).clocked n r.1).sending = true ∧
      ((s.port p).clocked n r.1).sent + 1 = (s.outBits p).length) ↔
      (s.port p).sending = true ∧ (s.port p).sent + (n + 1) = (s.outBits p).length :=
    and_congr_right fun hs => by
      replace hs : (s.port p).sending = true := hs
      rw [PortState.clocked, if_pos hs, Nat.add_assoc]
  have hkept : ((r.1.clock p s.phase x).2).filter (fun c => c != .responseClockedOut p) = (r.1.clock p s.phase x).2 :=
    List.filter_eq_self.mpr fun c hc => by simpa using clock_ne_clockedOut r.1 x c hc
  have hnone : ((r.1.clock p s.phase x).2).count (.responseClockedOut p) = 0 :=
    List.count_eq_zero.mpr fun hmem => clock_ne_clockedOut r.1 x _ hmem rfl
  refine ⟨?_, ?_, ?_⟩
  · rw [clockEdge_eq (by rw [hport]; exact hline), hport, hphase, clockedState_outBits, setPort_arrive, arrive_arrive,
      setPort_setPort, clocked_clocked]
    simp only [hlast]
    rfl
  · rw [List.filter_append, List.filter_append, hrequests, hkept]
    split <;> simp
  · rw [List.count_append, List.count_append, hended, hnone, apply_ite (List.count (Instr.responseClockedOut p)),
      List.count_singleton_self, List.count_nil, finishes_succ, Nat.zero_add]

theorem clockBits_clocked (h : (s.port p).line ≠ .idle) (xs : List Bool) :
    ∃ cs, Clocked s p xs.length ((s.port p).line.run p s.phase xs) cs (s.clockBits p xs) := by
  induction xs using List.reverseRecOn with
  | nil => exact ⟨[], .refl s p⟩
  | append_singleton xs x ih =>
    obtain ⟨cs, hcs⟩ := ih
    have hlast := hcs.edge (run_ne_idle h xs) x
    rw [run_append, List.length_append, State.clockBits, List.foldl_append]
    simp only [Line.run, List.append_nil]
    exact ⟨_, hlast⟩

/-- Commands that are all ends of a response. -/
theorem eq_replicate_of_filter {cs : List Instr} (h : cs.filter (fun c => c != .responseClockedOut p) = []) :
    cs = List.replicate (cs.count (.responseClockedOut p)) (.responseClockedOut p) := by
  have hall : ∀ c ∈ cs, c = .responseClockedOut p := by simpa [List.filter_eq_nil_iff] using h
  rw [List.count_eq_length.mpr fun c hc => (hall c hc).symm]
  exact List.eq_replicate_of_mem hall

end Sys2Proof.Machine
end

section
/-! PROOF. What select periods bring and carry (sections 9.1, 9.2 and 9.4): unsound frames, the command of a period from its
bits, and the response that a period sends. -/

namespace Sys2Proof.Machine

variable {s t : State} {p : Port}

/-! ## From edges to commands -/

/-- A frame that is taken is taken at its last byte's last bit, before the end of the response that the same bit ends, and after
one that ended before (log entry 41). -/
theorem clockBits_last_byte (hline : (s.port p).line = .collecting [] []) {bytes : List Byte} {c : Instr}
    (hsome : commandOfPeriod p bytes = some c) (hc : c ≠ .frameError p .truncated)
    (hopen : ∀ d, commandOfPeriod p bytes.dropLast = some d → d = .frameError p .truncated) :
    ∃ cs, Clocked s p (8 * bytes.length) (.ignoring, [c]) cs (s.clockBits p (bytes.flatMap bitsOf)) ∧
      ((s.port p).finishes (s.outBits p).length (8 * bytes.length) →
        cs =
          if (s.port p).sent + 8 * bytes.length = (s.outBits p).length then [c, .responseClockedOut p]
          else [.responseClockedOut p, c]) := by
  obtain rfl | ⟨init, b, rfl⟩ := bytes.eq_nil_or_concat'
  · cases hsome
  rw [List.dropLast_concat] at hopen
  obtain ⟨bits, x, hbits, hlength⟩ := bitsOf_split b
  have hsplit : (init ++ [b]).flatMap bitsOf = (init.flatMap bitsOf ++ bits) ++ [x] := by
    rw [List.flatMap_append, List.flatMap_singleton, hbits, List.append_assoc]
  have hcount : (init.flatMap bitsOf ++ bits).length + 1 = 8 * (init ++ [b]).length := by
    rw [List.length_append, flatMap_bitsOf_length, hlength, List.length_append, List.length_singleton]
    omega
  have hrun : (s.port p).line.run p s.phase (init.flatMap bitsOf ++ bits) = (.collecting init bits, []) := by
    rw [hline, run_append, run_bytes, takeByte_of_unfinished hopen, run_collecting_short init [] bits (by simp [hlength])]
    rfl
  have hlast : (Line.collecting init bits).clock p s.phase x = (.ignoring, [c]) := by
    have hbyte := byteOfBits_bitsOf b
    rw [hbits] at hbyte
    simp [Line.clock, hlength, hbyte, takeByte_of_some hsome hc]
  obtain ⟨cs, hcs⟩ := clockBits_clocked (s := s) (p := p) (by rw [hline]; exact Line.noConfusion)
    (init.flatMap bitsOf ++ bits)
  rw [hrun] at hcs
  have hedge := hcs.edge Line.noConfusion x
  rw [hlast, hcount] at hedge
  rw [hsplit, State.clockBits, List.foldl_append]
  refine ⟨_, hedge, fun ⟨hsending, hbefore, hafter⟩ => ?_⟩
  rw [eq_replicate_of_filter hcs.requests, hcs.ended]
  by_cases heq : (s.port p).sent + 8 * (init ++ [b]).length = (s.outBits p).length
  · rw [if_neg fun hends => by have := hends.2.2; omega, if_pos ⟨hsending, heq⟩, if_pos heq]
    rfl
  · rw [if_pos ⟨hsending, hbefore, by omega⟩, if_neg fun hends => heq hends.2, if_neg heq]
    rfl

/-- The command of a period's bytes arrives with the byte that completes it. -/
theorem clockBits_taken (hline : (s.port p).line = .collecting [] []) {bytes : List Byte} {c : Instr}
    (hsome : commandOfPeriod p bytes = some c) (hc : c ≠ .frameError p .truncated) :
    ∃ cs, Clocked s p (8 * bytes.length) (.ignoring, [c]) cs (s.clockBits p (bytes.flatMap bitsOf)) ∧
      ((∀ d, commandOfPeriod p bytes.dropLast = some d → d = .frameError p .truncated) →
        (s.port p).finishes (s.outBits p).length (8 * bytes.length) →
        cs =
          if (s.port p).sent + 8 * bytes.length = (s.outBits p).length then [c, .responseClockedOut p]
          else [.responseClockedOut p, c]) := by
  obtain ⟨d, hd, hne⟩ | hopen := finished_or_unfinished p bytes.dropLast
  · obtain ⟨cs, hcs⟩ := clockBits_clocked (s := s) (p := p) (by rw [hline]; exact Line.noConfusion) (bytes.flatMap bitsOf)
    rw [flatMap_bitsOf_length, hline, run_bytes, takeByte_of_some hsome hc] at hcs
    exact ⟨cs, hcs, fun hopen => absurd (hopen d hd) hne⟩
  · obtain ⟨cs, hcs, horder⟩ := clockBits_last_byte hline hsome hc hopen
    exact ⟨cs, hcs, fun _ => horder⟩

/-- A whole period brings the command of its bytes and its end, whatever bits of a byte begun follow them (R154, R155). -/
theorem clockBits_period (hline : (s.port p).line = .collecting [] []) (bytes : List Byte) {part : List Bool}
    (hpart : part.length < 8) :
    ∃ ln cs, Clocked s p (bytes.flatMap bitsOf ++ part).length (ln, (commandOfPeriod p bytes).toList) cs
      ((s.clockBits p (bytes.flatMap bitsOf ++ part)).arrive
        (((s.clockBits p (bytes.flatMap bitsOf ++ part)).port p).line.leftover p)) := by
  obtain ⟨cs, hcs⟩ := clockBits_clocked (s := s) (p := p) (by rw [hline]; exact Line.noConfusion)
    (bytes.flatMap bitsOf ++ part)
  rw [hline, run_append, run_bytes] at hcs
  obtain ⟨ln, out, hrun, hleft⟩ : ∃ ln out,
      (((Line.takeByte p bytes).1.run p s.phase part).1,
        (Line.takeByte p bytes).2 ++ ((Line.takeByte p bytes).1.run p s.phase part).2) = (ln, out) ∧
      out ++ ln.leftover p = (commandOfPeriod p bytes).toList := by
    obtain ⟨c, hsome, hc⟩ | hopen := finished_or_unfinished p bytes
    · rw [takeByte_of_some hsome hc, run_ignoring, hsome]
      exact ⟨_, _, rfl, rfl⟩
    · rw [takeByte_of_unfinished hopen, run_collecting_short bytes [] part (by simpa using hpart)]
      exact ⟨_, _, rfl, rfl⟩
  rw [hrun] at hcs
  obtain ⟨hstate, hrequests, hended⟩ := hcs
  have hport : ((s.clockBits p (bytes.flatMap bitsOf ++ part)).port p).line = ln := by
    rw [hstate, clockedState_port]
    rfl
  have hquiet : ∀ c ∈ ln.leftover p, c ≠ .responseClockedOut p := by
    cases ln with
    | collecting bytes bits => simpa [Line.leftover] using fun c => commandOfPeriod_ne_clockedOut (bytes := bytes)
    | idle => simp [Line.leftover]
    | ignoring => simp [Line.leftover]
    | spanned bits => simp [Line.leftover]
  refine ⟨ln, cs ++ ln.leftover p, ?_, ?_, ?_⟩
  · rw [hport, hstate, arrive_arrive]
  · have hkept : (ln.leftover p).filter (fun c => c != .responseClockedOut p) = ln.leftover p :=
      List.filter_eq_self.mpr fun c hc => by simpa using hquiet c hc
    rw [List.filter_append, hrequests, hkept, hleft]
  · have hnone : (ln.leftover p).count (.responseClockedOut p) = 0 :=
      List.count_eq_zero.mpr fun hmem => hquiet _ hmem rfl
    rw [List.count_append, hended, hnone, Nat.add_zero]

/-- A period that a device reset spans: nothing is taken while the device is STARTING (R163). -/
theorem clockBits_spanned_starting (hline : (s.port p).line = .spanned []) (hphase : s.phase = .starting) (xs : List Bool) :
    ∃ cs, Clocked s p xs.length (.spanned [], []) cs (s.clockBits p xs) := by
  obtain ⟨cs, hcs⟩ := clockBits_clocked (s := s) (p := p) (by rw [hline]; exact Line.noConfusion) xs
  rw [hline, hphase, run_spanned_starting] at hcs
  exact ⟨cs, hcs⟩

/-- Once it is READY, bytes are passed over up to a start mark (R163). -/
theorem clockBits_spanned_ready (hline : (s.port p).line = .spanned []) (hphase : s.phase = .ready) {bytes : List Byte}
    (hbytes : ∀ b ∈ bytes, b ≠ requestMark) :
    (∃ cs, Clocked s p (8 * bytes.length) (.spanned [], []) cs (s.clockBits p (bytes.flatMap bitsOf))) ∧
      ∃ cs, Clocked s p (8 * bytes.length + 8) (.collecting [requestMark] [], []) cs
        (s.clockBits p ((bytes ++ [requestMark]).flatMap bitsOf)) := by
  have hne : (s.port p).line ≠ .idle := by
    rw [hline]
    exact Line.noConfusion
  obtain ⟨cs, hcs⟩ := clockBits_clocked hne (bytes.flatMap bitsOf)
  obtain ⟨cs', hcs'⟩ := clockBits_clocked hne ((bytes ++ [requestMark]).flatMap bitsOf)
  rw [flatMap_bitsOf_length, hline, hphase, run_spanned_bytes hbytes] at hcs
  rw [flatMap_bitsOf_length, List.length_append, List.flatMap_append, List.flatMap_singleton, hline, hphase, run_append,
    run_spanned_bytes hbytes, run_spanned_byte, if_pos rfl] at hcs'
  refine ⟨⟨cs, hcs⟩, cs', ?_⟩
  rw [List.flatMap_append, List.flatMap_singleton]
  exact hcs'

theorem setPort_arrive_eq (s : State) (p : Port) (ps : PortState) (cs : List Instr) :
    (s.setPort p ps).arrive cs = { s.setPort p ps with pending := s.pending ++ cs } := by
  rw [State.arrive, setPort_pending]

/-! ## The obligations -/

/-- Settles O5: the frame errors by the first check that fails, and the bits by the run of the line. -/
theorem unsoundFramesAreFrameErrors : Obligations.UnsoundFramesAreFrameErrors := by
  have hbit (b : Byte) : (bitsOf b).head? = some b.msb := by
    revert b
    decide +kernel
  refine ⟨fun p n bytes => ?_, fun b => ⟨byteOfBits_bitsOf b, rfl, hbit b⟩, fun s p x hidle => ?_, ?_⟩
  · refine ⟨commandOfPeriod_fill n, fun b hb hmark => commandOfPeriod_badStart n hb hmark bytes, commandOfPeriod_mark n [],
      fun len hlen => ?_, fun len hlen hshort => ?_, fun kind tag body crc hbody hcrc hne => ?_⟩ <;>
      rw [commandOfPeriod_mark]
    · rw [afterStartMark_oversize hlen]
    · rw [afterStartMark_truncated (Nat.not_lt.mpr hlen) hshort]
    · rw [afterStartMark_whole kind tag hbody hcrc, if_neg (Ne.symm hne)]
  · exact if_pos hidle
  intro whole finishes clocks requests
  have hclocks {s t : State} {p : Port} {n : Nat} {ln : Line} {reqs cs : List Instr} (h : Clocked s p n (ln, reqs) cs t) :
      clocks s t p n ln cs ∧ requests p cs = reqs := by
    obtain ⟨rfl, hrequests, hended⟩ := h
    refine ⟨⟨?_, fun hf => hended.trans (if_pos hf), fun hf => hended.trans (if_neg hf)⟩, hrequests⟩
    exact setPort_arrive_eq ..
  refine ⟨fun s p bytes part hpart hline => ⟨?_, fun c hsome hc => ?_⟩, fun s p hline => ⟨fun hphase xs => ?_,
    fun hphase bytes hbytes => ?_⟩⟩
  · obtain ⟨ln, cs, hcs⟩ := clockBits_period hline bytes hpart
    obtain ⟨⟨-, hended, hopen⟩, hrequests⟩ := hclocks hcs
    refine ⟨ln, cs, ⟨?_, ?_, ?_⟩, hrequests⟩
    · rw [State.selectOff, ← arrive_arrive, hcs.state, arrive_arrive]
      exact setPort_arrive_eq ..
    · intro hf
      simpa [List.count_append] using hended hf
    · intro hf
      simpa [List.count_append] using hopen hf
  · obtain ⟨cs, hcs, horder⟩ := clockBits_taken hline hsome hc
    exact ⟨cs, (hclocks hcs).1, (hclocks hcs).2, horder⟩
  · obtain ⟨cs, hcs⟩ := clockBits_spanned_starting hline hphase xs
    exact ⟨cs, hclocks hcs⟩
  · obtain ⟨⟨cs, hcs⟩, cs', hcs'⟩ := clockBits_spanned_ready hline hphase hbytes
    exact ⟨⟨cs, hclocks hcs⟩, cs', hclocks hcs'⟩

/-! ## The response of a period -/

/-- The port as a select period starts (R154, R160). -/
def PortState.started (ps : PortState) : PortState :=
  { ps with selected := true, sending := ps.firstReady, sent := 0, restartSent := false, line := .collecting [] [] }

theorem exec_selectPeriodStart (s : State) (p : Port) :
    exec (.selectPeriodStart p) s = .next (s.setPort p (s.port p).started) := rfl

theorem firstReady_of_ready {ps : PortState} {r : Response} {rest : List Position} (h : ps.positions = .ready r :: rest) :
    ps.firstReady = true := by
  rw [PortState.firstReady, h]

theorem dataOut_of_ready {r : Response} {rest : List Position} (hsending : (s.port p).sending = true)
    (h : (s.port p).positions = .ready r :: rest) : s.dataOut p = r.frame := by
  rw [State.dataOut, hsending, h]

theorem dataOut_of_not_sending (hsending : (s.port p).sending = false) : s.dataOut p = [] := by
  rw [State.dataOut, hsending]

/-- Outside a period data-out shows no bit (R154). -/
theorem dataOutBit_of_not_selected (h : (s.port p).selected = false) : s.dataOutBit p = none :=
  if_neg (by simp [h])

/-- With each edge the next bit is presented, and then fill (R160). -/
theorem dataOutBit_clockBits (hline : (s.port p).line ≠ .idle) (hselected : (s.port p).selected = true) (xs : List Bool) :
    (s.clockBits p xs).dataOutBit p =
      some ((s.outBits p).getD (if (s.port p).sending = true then (s.port p).sent + xs.length else (s.port p).sent) false) := by
  obtain ⟨cs, hstate, -, -⟩ := clockBits_clocked hline xs
  rw [hstate]
  unfold State.dataOutBit
  dsimp only
  rw [clockedState_outBits, clockedState_port]
  exact if_pos hselected

theorem started_port (s : State) (p : Port) : (s.setPort p (s.port p).started).port p = (s.port p).started := by
  rw [setPort_port, if_pos rfl]

theorem exec_responseClockedOut_started (s : State) (p : Port) :
    exec (.responseClockedOut p) (s.setPort p (s.port p).started) = .next (s.setPort p (s.port p).started.clockedOut) := by
  change Host.Outcome.next _ = _
  rw [started_port, setPort_setPort]

/-- A period that has carried no STATION RESTART's response ends without a reset (R177). -/
theorem exec_selectPeriodEnd_started (s : State) (p : Port) :
    exec (.selectPeriodEnd p) (s.setPort p (s.port p).started) = .next (s.setPort p (s.port p).started.periodEnded) := by
  change Host.Outcome.next (if (_ && _) = true then _ else _) = _
  rw [started_port, if_neg (by simp [PortState.started]), setPort_setPort]

/-- The bits of a period that has started, and the end of its response with the last of them (R160). -/
theorem clockBits_started (hready : (s.port p).firstReady = true) {frame : List Byte}
    (hframe : (s.setPort p (s.port p).started).dataOut p = frame) (hpos : 0 < frame.length) (xs : List Bool) :
    ((s.setPort p (s.port p).started).clockBits p xs).dataOutBit p = some ((frame.flatMap bitsOf).getD xs.length false) ∧
      ∃ cs, ((s.setPort p (s.port p).started).clockBits p xs).pending = (s.setPort p (s.port p).started).pending ++ cs ∧
        cs.count (.responseClockedOut p) = if 8 * frame.length ≤ xs.length then 1 else 0 := by
  have hport := started_port s p
  have hline : ((s.setPort p (s.port p).started).port p).line ≠ .idle := by
    rw [hport]
    exact Line.noConfusion
  have hout : (s.setPort p (s.port p).started).outBits p = frame.flatMap bitsOf := by rw [State.outBits, hframe]
  have hsending : (s.port p).started.sending = true := hready
  refine ⟨?_, ?_⟩
  · rw [dataOutBit_clockBits hline (by rw [hport]; rfl), hport, hout, if_pos hsending]
    simp only [PortState.started, Nat.zero_add]
  · obtain ⟨cs, hstate, -, hended⟩ := clockBits_clocked hline xs
    refine ⟨cs, ?_, ?_⟩
    · rw [hstate, setPort_arrive_eq]
    · have hfinishes : (s.port p).started.finishes (8 * frame.length) xs.length ↔ 8 * frame.length ≤ xs.length := by
        have hsent : (s.port p).started.sent = 0 := rfl
        simp only [PortState.finishes, hsending, hsent, true_and, Nat.zero_add]
        omega
      rw [hended, hport, hout, flatMap_bitsOf_length]
      simp only [hfinishes]

/-- Without a ready response a period shows fill (R160). -/
theorem clockBits_started_fill (hfirst : (s.port p).firstReady = false) (xs : List Bool) :
    ((s.setPort p (s.port p).started).clockBits p xs).dataOutBit p = some false := by
  have hport := started_port s p
  have hout : (s.setPort p (s.port p).started).outBits p = [] := by
    rw [State.outBits, dataOut_of_not_sending (by rw [hport]; exact hfirst)]
    rfl
  rw [dataOutBit_clockBits (by rw [hport]; exact Line.noConfusion) (by rw [hport]; rfl), hout]
  rfl

/-- Settles O8: the frame by its definition, the position by the events of the period, and the bits by their count. -/
theorem selectPeriodsCarryOneResponse : Obligations.SelectPeriodsCarryOneResponse := by
  refine ⟨fun r => ?_, fun s p => dataOutBit_of_not_selected, fun s p => ⟨fun r rest hpositions => ?_, fun hfirst => ?_⟩⟩
  · simp [Response.frame, responseMark]
  · have hready := firstReady_of_ready hpositions
    have hframe : (s.setPort p (s.port p).started).dataOut p = r.frame :=
      dataOut_of_ready (by rw [started_port]; exact hready) (by rw [started_port]; exact hpositions)
    have hclocked : (s.port p).started.clockedOut.positions = rest ∧ (s.port p).started.clockedOut.sending = false := by
      simp [PortState.clockedOut, PortState.started, hpositions, hready]
    refine ⟨_, _, exec_selectPeriodStart s p, rfl, hframe, rfl, rfl,
      ⟨_, _, exec_responseClockedOut_started s p, rfl, hclocked.1, dataOut_of_not_sending ?_⟩,
      ⟨_, _, exec_selectPeriodEnd_started s p, rfl, rfl, dataOut_of_not_sending ?_, rfl⟩,
      clockBits_started hready hframe (Nat.succ_pos _)⟩
    · rw [setPort_port, if_pos rfl]
      exact hclocked.2
    · rw [setPort_port, if_pos rfl]
      rfl
  · refine ⟨_, _, exec_selectPeriodStart s p, rfl, dataOut_of_not_sending (by rw [started_port]; exact hfirst), rfl, ?_,
      clockBits_started_fill hfirst⟩
    rw [exec_responseClockedOut_started]
    have hkept : (s.port p).started.clockedOut = (s.port p).started := by
      have hsending : (s.port p).started.sending = false := hfirst
      unfold PortState.clockedOut
      split
      · rfl
      · rw [hsending]
        rfl
    rw [hkept]

end Sys2Proof.Machine
end

section
/-! PROOF. Admission and its tasks (chapter 3): the check order, what each outcome leaves, and how a task settles its day. -/

namespace Sys2Proof.Machine

variable {s : State} {k : LaneId} {serial : Nat} {r : PassRecord} {c : AdmitCtx}

/-! ## The check order -/

/-- The zone mask refuses when its flag is clear (R39). -/
theorem zoneRefuses_iff {zones : Option Word16} {zone : Nat} :
    zoneRefuses zones zone = true ↔ ∃ m, zones = some m ∧ m.getLsbD zone = false := by
  cases zones <;> simp [zoneRefuses]

theorem hoursRefuse_iff {hours : Option HourWindow} {minute : Nat} :
    hoursRefuse hours minute = true ↔ ∃ h, hours = some h ∧ ¬ (h.fromMinute ≤ minute ∧ minute < h.toMinute) := by
  cases hours with
  | none => simp [hoursRefuse]
  | some h =>
    simp only [hoursRefuse, Bool.or_eq_true, decide_eq_true_eq, Option.some.injEq, exists_eq_left']
    omega

theorem passbackRefuses_iff {stamp : Option Stamp} :
    passbackRefuses c stamp = true ↔ ∃ st, stamp = some st ∧ 0 < c.passback ∧ st.lift = c.lift ∧ st.time ≤ c.time ∧
      c.time - st.time < c.passback * 1000 := by
  cases stamp <;> simp [passbackRefuses, and_assoc]

/-- The verdict of a record that its entitlement and its stamp let pass: a re-ride, a day consumed, or no day left (R41, R42). -/
theorem verdict_of_passed (hblocked : r.ent.blocked = false) (hfirst : r.ent.firstDay ≤ c.day) (hlast : c.day ≤ r.ent.lastDay)
    (hzone : ¬ zoneRefuses r.ent.zones c.zone = true) (hhours : ¬ hoursRefuse r.ent.hours c.minute = true)
    (hpassback : ¬ passbackRefuses c r.usage.stamp = true) :
    verdict c (some r) =
      if (dayState r.usage.used c.day).isSome then .reride
      else if r.remaining = 0 then (if 0 < r.usage.refundedDays then .refused .refunded else .refused .noDaysLeft)
      else .consume := by
  simp only [verdict]
  rw [if_neg (by simp [hblocked]), if_neg (Nat.not_lt.mpr hfirst), if_neg (Nat.not_lt.mpr hlast), if_neg hzone, if_neg hhours,
    if_neg hpassback]

theorem remaining_eq_zero_iff {r : PassRecord} :
    r.remaining = 0 ↔ r.ent.rideDays ≤ r.usage.used.length + r.usage.refundedDays := by
  rw [PassRecord.remaining]
  omega

theorem admitCtx_eq (s : State) (k : LaneId) :
    s.admitCtx k =
      { time := s.timebase.time
        day := if s.timebase.status = .unset then s.timebase.currentDay else operatingDay s.profile.rollover s.timebase.time
        minute := s.timebase.time % 86400000 / 60000
        lift := s.profile.liftOf[k.val]
        zone := s.profile.zoneOf[s.profile.liftOf[k.val].val]
        passback := s.profile.passback[s.profile.liftOf[k.val].val] } := by
  have hday : s.opDay =
      if s.timebase.status = .unset then s.timebase.currentDay else operatingDay s.profile.rollover s.timebase.time := by
    unfold State.opDay
    cases s.timebase.status <;> rfl
  rw [← hday]
  rfl

/-- Settles O20: the branches of the verdict, in their order. -/
theorem admitCheckOrder : Obligations.AdmitCheckOrder := by
  refine ⟨admitCtx_eq, fun c => ⟨rfl, fun r => ?_⟩⟩
  intro zoneBad hoursBad passbackBad dayUsed valid pass
  have hzone : zoneRefuses r.ent.zones c.zone = true ↔ zoneBad := zoneRefuses_iff
  have hhours : hoursRefuse r.ent.hours c.minute = true ↔ hoursBad := hoursRefuse_iff
  have hpassback : passbackRefuses c r.usage.stamp = true ↔ passbackBad := passbackRefuses_iff
  have hused : (dayState r.usage.used c.day).isSome = true ↔ dayUsed := dayState_isSome_iff
  have hpassed (h : pass) : verdict c (some r) =
      if dayUsed then .reride
      else if r.remaining = 0 then (if 0 < r.usage.refundedDays then .refused .refunded else .refused .noDaysLeft)
      else .consume := by
    obtain ⟨hblocked, ⟨hfirst, hlast⟩, hz, hh, hp⟩ := h
    rw [verdict_of_passed hblocked hfirst hlast (hzone.not.mpr hz) (hhours.not.mpr hh) (hpassback.not.mpr hp)]
    simp only [hused]
  have hlast (h : valid) : ¬ c.day < r.ent.firstDay ∧ ¬ r.ent.lastDay < c.day := ⟨Nat.not_lt.mpr h.1, Nat.not_lt.mpr h.2⟩
  refine ⟨fun hblocked => ?_, fun hblocked hearly => ?_, fun hblocked hfirst hlate => ?_, fun hblocked hvalid hz => ?_,
    fun hblocked hvalid hz hh => ?_, fun hblocked hvalid hz hh hp => ?_, fun h hday => ?_, fun h hday hleft => ?_,
    fun h hday hnone => ?_⟩
  · simp [verdict, hblocked]
  · simp [verdict, hblocked, hearly]
  · have hlate' : r.ent.lastDay < c.day := hlate
    simp [verdict, hblocked, Nat.not_lt.mpr hfirst, hlate']
  · simp [verdict, hblocked, hlast hvalid, hzone.mpr hz]
  · simp [verdict, hblocked, hlast hvalid, hzone.not.mpr hz, hhours.mpr hh]
  · simp [verdict, hblocked, hlast hvalid, hzone.not.mpr hz, hhours.not.mpr hh, hpassback.mpr hp]
  · rw [hpassed h, if_pos hday]
  · rw [hpassed h, if_neg hday, if_neg (by rw [remaining_eq_zero_iff]; omega)]
  · rw [hpassed h, if_neg hday, if_pos (remaining_eq_zero_iff.mpr hnone)]
    split <;> rfl

/-! ## Outcomes -/

theorem serveAdmitLane_of_shut (h : (s.lane k).current = .shut) :
    serveAdmitLane s k serial = { state := s, code := .laneShut, body := admitBytesNone serial } := by
  unfold serveAdmitLane
  dsimp only
  rw [if_pos h]

theorem serveAdmitLane_of_full (hstate : (s.lane k).current = .self ∨ (s.lane k).current = .attended)
    (hfull : 2 ≤ (s.lane k).inflight.length) :
    serveAdmitLane s k serial = { state := s, code := .wait, body := admitBytesNone serial } := by
  have hshut : (s.lane k).current ≠ .shut := by
    rcases hstate with h | h <;> simp [h]
  unfold serveAdmitLane
  dsimp only
  rw [if_neg hshut, if_pos ⟨hstate, hfull⟩]

/-- A refusal by the record sends one refused count event (R47). -/
theorem serveAdmitLane_of_refused (hshut : (s.lane k).current ≠ .shut)
    (hroom : ¬ (((s.lane k).current = .self ∨ (s.lane k).current = .attended) ∧
      Config.inFlightMax ≤ (s.lane k).inflight.length)) :
    (s.record serial = none →
      serveAdmitLane s k serial = { state := s.send (.refused k), code := .unknownPass, body := admitBytesNone serial }) ∧
      ∀ r code, s.record serial = some r → verdict (s.admitCtx k) (some r) = .refused code →
        serveAdmitLane s k serial =
          { state := s.send (.refused k), code := code, body := admitBytes serial false .none (s.admitCtx k).day r } := by
  unfold serveAdmitLane
  dsimp only
  rw [if_neg hshut, if_neg hroom]
  refine ⟨fun hrec => by rw [hrec], fun r code hrec hv => ?_⟩
  rw [hrec]
  dsimp only
  rw [hv]

/-- Settles O21: the two checks at the lane, and a refusal by the record's verdict. -/
theorem refusedAdmitsCountOnly : Obligations.RefusedAdmitsCountOnly := by
  intro s k serial l
  refine ⟨fun hshut => congrArg CommitResult.answered (serveAdmitLane_of_shut hshut),
    fun hstate hfull => congrArg CommitResult.answered (serveAdmitLane_of_full hstate hfull), fun hshut hroom => ?_⟩
  have hroom' : ¬ ((l.current = .self ∨ l.current = .attended) ∧ Config.inFlightMax ≤ l.inflight.length) := by
    rintro ⟨hstate, hfull⟩
    rcases hroom with hobserve | hlt
    · rcases hstate with h | h <;> simp [hobserve] at h
    · exact Nat.not_le.mpr hlt hfull
  obtain ⟨hnone, hsome⟩ := serveAdmitLane_of_refused (serial := serial) hshut hroom'
  exact ⟨fun hrec => congrArg CommitResult.answered (hnone hrec),
    fun r code hrec hv => congrArg CommitResult.answered (hsome r code hrec hv)⟩

/-- The rides today that the response reports are those the admission wrote (R48). -/
theorem ridesFor_admitHeld (u : Usage) (c : AdmitCtx) : ridesFor (u.admitHeld c) c.day = (rideOn u.rides c.day).count := by
  simp [ridesFor, Usage.admitHeld]

theorem rideOn_count (rides : Option RidesToday) (day : Nat) :
    (rideOn rides day).count =
      match rides with
      | some rt => if rt.day = day then min 255 (rt.count + 1) else 1
      | none => 1 := by
  cases rides <;> simp

/-- The admission at a lane in SELF or ATTENDED writes the record and places the entry (R43, R44). -/
theorem serveAdmitLane_held {consumed : Bool} (hstate : (s.lane k).current = .self ∨ (s.lane k).current = .attended)
    (hroom : (s.lane k).inflight.length < 2) (hrec : s.record serial = some r)
    (hv : verdict (s.admitCtx k) (some r) = if consumed then .consume else .reride) :
    serveAdmitLane s k serial =
      { state :=
          (s.setRecord serial (fun q => q.withUsage (r.usage.admitHeld (s.admitCtx k)))).applyLane k
            (joinEntry (s.laneCtx k) (s.lane k) (newEntry (s.laneCtx k) (.pass (admissionOf (s.admitCtx k) r))))
        code := .admitted
        body :=
          admitBytes serial consumed (joinPosition (s.lane k)) (s.admitCtx k).day
            (r.withUsage (r.usage.admitHeld (s.admitCtx k))) } := by
  obtain ⟨-, -, rfl⟩ := findRecord_some hrec
  have hshut : (s.lane k).current ≠ .shut := by
    rcases hstate with h | h <;> simp [h]
  have hobserve : (s.lane k).current ≠ .observe := by
    rcases hstate with h | h <;> simp [h]
  rw [serveAdmitLane_admitted hshut (fun h => Nat.not_le.mpr hroom h.2) hrec hv, admitAt]
  exact if_neg hobserve

/-- Settles O22: what the admission writes, and the entry at its place. -/
theorem admissionPlacesAnEntry : Obligations.AdmissionPlacesAnEntry := by
  intro s k serial r consumed l d count stamp u released entry hstate hroom htimeout hrec hv
  have hcount : (rideOn r.usage.rides d).count = count := rideOn_count r.usage.rides d
  have hused : useDayHeld r.usage.used d = u.used := by
    unfold useDayHeld u
    cases dayState r.usage.used d with
    | none => rfl
    | some st => cases st <;> rfl
  have hu : r.usage.admitHeld (s.admitCtx k) = u := by
    have hrides : rideOn r.usage.rides d = { day := d, count := count } := by rw [rideOn_eq, hcount]
    change ({ r.usage with stamp := some stamp, rides := some (rideOn r.usage.rides d), used := useDayHeld r.usage.used d } :
      Usage) = u
    rw [hrides, hused]
  have hserial : r.ent.serial = serial := (findRecord_some hrec).2.2
  have hheld : heldDayOf r.usage d = if dayState r.usage.used d = some .confirmed then none else some d := by
    unfold heldDayOf
    cases dayState r.usage.used d with
    | none => rfl
    | some st => cases st <;> rfl
  have hentry : admissionOf (s.admitCtx k) r =
      { serial := serial
        stampSet := stamp
        heldDay := if dayState r.usage.used d = some .confirmed then none else some d
        priorStamp := r.usage.stamp
        priorRides := r.usage.rides } := by
    rw [← hserial, ← hheld]
    rfl
  have hposition : beBytes 1 (positionCode (joinPosition l)) = [if l.inflight = [] then 1 else 2] := by
    unfold joinPosition
    split <;> rfl
  have hrides : ridesFor (r.withUsage u).usage d = count := by
    rw [← hcount, ← hu]
    exact ridesFor_admitHeld r.usage (s.admitCtx k)
  have hlane : 0 < (s.laneCtx k).timeout := Nat.mul_pos htimeout (by decide)
  change CommitResult.answered (serveAdmitLane s k serial) = _
  rw [serveAdmitLane_held hstate hroom hrec hv, joinEntry_eq _ hstate hlane, hentry, hu, applyLane_lane_only]
  unfold admitBytes
  rw [hposition]
  change CommitResult.answered { state := _, code := _, body := _ ++ beBytes 1 (ridesFor (r.withUsage u).usage d) ++ _ ++ _ ++ _ } = _
  rw [hrides]
  rfl

end Sys2Proof.Machine
end

section
/-! PROOF. What CONFIRM and VOID do to the record and to the other entries in flight (section 3.6), and that a VOID undoes its
admission. -/

namespace Sys2Proof.Machine

variable {s : State} {r : PassRecord} {c : AdmitCtx} {used : List UsedDay} {day : Nat}

/-! ## CONFIRM -/

theorem confirmDay_of_provisional {n : Nat} (h : dayState used day = some (.provisional n)) :
    confirmDay used day = used.map (fun u => if u.day = day then { u with state := .confirmed } else u) := by
  unfold confirmDay
  rw [h]
  rfl

/-- The day confirmed is that of the one record of the serial (R10, R50). -/
theorem updateRecord_confirmDay (hwf : Store.wf s.store) {serial d n : Nat} (hrec : s.record serial = some r)
    (hday : dayState r.usage.used d = some (.provisional n)) :
    updateRecord s.store serial (fun q => q.withUsage { q.usage with used := confirmDay q.usage.used d }) =
      s.store.map (fun q =>
        if q.ent.serial = serial then
          { q with
            usage :=
              { q.usage with used := q.usage.used.map (fun u => if u.day = d then { u with state := .confirmed } else u) } }
        else q) := by
  obtain ⟨-, hr, hserial⟩ := record_mem hrec
  refine List.map_congr_left fun q hq => ?_
  split
  · rename_i hq'
    obtain rfl := eq_of_serial hwf hr hq (hq'.trans hserial.symm)
    dsimp only
    rw [confirmDay_of_provisional hday]
    rfl
  · rfl

theorem clearHeld_of_not_holds {serial d : Nat} {e : Entry} (h : e.holds serial d = false) : e.clearHeld serial d = e := by
  unfold Entry.holds at h
  unfold Entry.clearHeld
  cases hkind : e.kind with
  | free => rfl
  | pass a =>
    rw [hkind] at h
    exact if_neg fun ha => by simp [Admission.holds, ha] at h

theorem clearHeld_of_holds {serial d : Nat} {e : Entry} {q : Admission} (hkind : e.kind = .pass q)
    (h : e.holds serial d = true) : e.clearHeld serial d = { e with kind := .pass { q with heldDay := none } } := by
  rw [Entry.holds, hkind] at h
  rw [Entry.clearHeld, hkind]
  exact if_pos (holds_iff.mp h)

theorem clearHeld_lane (s : State) (serial d : Nat) (t : State) (h : t.lanes = s.lanes.map (Lane.clearHeld serial d)) (j : LaneId) :
    t.lane j = (s.lane j).clearHeld serial d := by
  simp [State.lane, h]

/-- What a CONFIRM leaves of the store, of the entries in flight and of everything else (R50, R51). -/
theorem serveConfirm_settles {a : Admission} {d n : Nat} (hlaw : StoreLaw s) (hrec : s.record a.serial = some r)
    (hd : a.heldDay = some d) (hday : dayState r.usage.used d = some (.provisional n)) :
    let t := serveConfirm s a
    t.store =
        s.store.map (fun q =>
          if q.ent.serial = a.serial then
            { q with
              usage :=
                { q.usage with used := q.usage.used.map (fun u => if u.day = d then { u with state := .confirmed } else u) } }
          else q) ∧
      (∀ (j : LaneId) (n : Nat) (e : Entry), (s.lane j).inflight[n]? = some e →
        ∃ e', (t.lane j).inflight[n]? = some e' ∧ (e.holds a.serial d = false → e' = e) ∧
          (∀ q, e.kind = .pass q → e.holds a.serial d = true → e' = { e with kind := .pass { q with heldDay := none } })) ∧
      (∀ j : LaneId, t.lane j = { s.lane j with inflight := (t.lane j).inflight } ∧
        (t.lane j).inflight.length = (s.lane j).inflight.length) ∧
      t = { s with store := t.store, lanes := t.lanes } := by
  have hlane (j : LaneId) : (serveConfirm s a).lane j = (s.lane j).clearHeld a.serial d := by
    rw [serveConfirm_of_provisional hrec hd hday]
    exact clearHeld_lane s a.serial d _ rfl j
  refine ⟨?_, fun j n e he => ⟨e.clearHeld a.serial d, ?_, clearHeld_of_not_holds, fun q => clearHeld_of_holds⟩, fun j => ?_, ?_⟩
  · rw [serveConfirm_of_provisional hrec hd hday]
    exact updateRecord_confirmDay (storeLaw_iff.mp hlaw).1.1 hrec hday
  · rw [hlane, Lane.clearHeld, List.getElem?_map, he]
    rfl
  · rw [hlane]
    exact ⟨rfl, List.length_map ..⟩
  · rw [serveConfirm_of_provisional hrec hd hday]
    rfl

/-! ## VOID -/

/-- Stamp and rides today are restored together, where the stamp is still the admission's (R52). -/
theorem void_stamp_rides (u : Usage) (a : Admission) :
    (u.stamp = some a.stampSet → (u.void a).stamp = a.priorStamp ∧ (u.void a).rides = a.priorRides) ∧
      (u.stamp ≠ some a.stampSet → (u.void a).stamp = u.stamp ∧ (u.void a).rides = u.rides) := by
  unfold Usage.void
  cases a.heldDay <;> simp +contextual

theorem void_refunded (u : Usage) (a : Admission) :
    (u.void a).refundedDays = u.refundedDays ∧ (u.void a).refundedTotal = u.refundedTotal := by
  unfold Usage.void
  dsimp only
  cases a.heldDay <;> split_ifs <;> exact ⟨rfl, rfl⟩

theorem voidDay_of_provisional {h : Nat} (hday : dayState used day = some (.provisional h)) :
    voidDay used day =
      if h ≤ 1 then used.filter (fun x => x.day != day)
      else used.map (fun x => if x.day = day then { x with state := .provisional (h - 1) } else x) := by
  unfold voidDay
  rw [hday]
  rfl

/-! ## VOID undoes its admission -/

theorem removeDay_insertDay {u : UsedDay} (h : ∀ v ∈ used, v.day ≠ u.day) : removeDay (insertDay u used) u.day = used := by
  have hkept {vs : List UsedDay} (hvs : ∀ v ∈ vs, v.day ≠ u.day) : removeDay vs u.day = vs :=
    List.filter_eq_self.mpr fun v hv => by simpa using hvs v hv
  induction used with
  | nil => simp [insertDay, removeDay]
  | cons v rest ih =>
    obtain ⟨hv, hrest⟩ := List.forall_mem_cons.mp h
    unfold insertDay
    split
    · rw [← hkept h]
      simp [removeDay]
    · have hcons : removeDay (v :: insertDay u rest) u.day = v :: removeDay (insertDay u rest) u.day :=
        List.filter_cons_of_pos (by simpa using hv)
      rw [hcons, ih hrest]

/-- Setting a day to the state it had restores the list (R4). -/
theorem setDay_setDay (hsorted : used.Pairwise (fun x y => x.day < y.day)) {st : DayState} (h : dayState used day = some st)
    (other : DayState) : setDay (setDay used day other) day st = used := by
  have hstate (u : UsedDay) (hu : u ∈ used) (hday : u.day = day) : u.state = st := by
    have hsome := (dayState_eq_some_iff hsorted).mpr ⟨u, hu, hday, rfl⟩
    rw [h] at hsome
    exact (Option.some.inj hsome).symm
  unfold setDay
  rw [List.map_map]
  refine (List.map_congr_left fun u hu => ?_).trans (List.map_id used)
  by_cases hday : u.day = day
  · simp [hday, ← hstate u hu hday]
    rw [← hday]
  · simp [hday]

theorem voidDay_useDayHeld (hsorted : used.Pairwise (fun x y => x.day < y.day))
    (hcounts : ∀ u ∈ used, u.state ≠ .provisional 0) (hnot : dayState used day ≠ some .confirmed) :
    voidDay (useDayHeld used day) day = used := by
  have hheld := dayState_useDayHeld used day
  cases hday : dayState used day with
  | none =>
    have huse : useDayHeld used day = insertDay { day := day, state := .provisional 1 } used := by
      simp only [useDayHeld, hday]
    rw [hday] at hheld
    rw [voidDay_of_provisional hheld, if_pos (Nat.le_refl 1), huse]
    exact removeDay_insertDay (u := { day := day, state := .provisional 1 }) (dayState_eq_none_iff.mp hday)
  | some st =>
    cases st with
    | confirmed => exact absurd hday hnot
    | provisional h =>
      have huse : useDayHeld used day = setDay used day (.provisional (h + 1)) := by
        simp only [useDayHeld, hday]
      obtain ⟨u, hu, -, hstate⟩ := (dayState_eq_some_iff hsorted).mp hday
      have hpos : h ≠ 0 := fun hzero => hcounts u hu (hzero ▸ hstate)
      rw [hday] at hheld
      rw [voidDay_of_provisional hheld, if_neg (by omega), huse]
      exact setDay_setDay hsorted hday _

theorem usage_eq {u v : Usage} (hused : u.used = v.used) (hdays : u.refundedDays = v.refundedDays)
    (htotal : u.refundedTotal = v.refundedTotal) (hstamp : u.stamp = v.stamp) (hrides : u.rides = v.rides) : u = v := by
  cases u
  cases v
  simp_all

/-- A VOID right after its admission (R52, R53). -/
theorem void_admitHeld (c : AdmitCtx) (r : PassRecord) (hsorted : r.usage.used.Pairwise (fun x y => x.day < y.day))
    (hcounts : ∀ u ∈ r.usage.used, u.state ≠ .provisional 0) : (r.usage.admitHeld c).void (admissionOf c r) = r.usage := by
  have hused : ((r.usage.admitHeld c).void (admissionOf c r)).used = r.usage.used := by
    rw [void_used]
    by_cases hconfirmed : dayState r.usage.used c.day = some .confirmed
    · have hheld : (admissionOf c r).heldDay = none := by simp only [admissionOf, heldDayOf, hconfirmed]
      rw [hheld]
      change useDayHeld r.usage.used c.day = r.usage.used
      simp only [useDayHeld, hconfirmed]
    · have hheld : (admissionOf c r).heldDay = some c.day := (holds_iff.mp (admissionOf_holds_self hconfirmed)).2
      rw [hheld]
      exact voidDay_useDayHeld hsorted hcounts hconfirmed
  obtain ⟨hstamp, hrides⟩ := (void_stamp_rides (r.usage.admitHeld c) (admissionOf c r)).1 rfl
  obtain ⟨hdays, htotal⟩ := void_refunded (r.usage.admitHeld c) (admissionOf c r)
  exact usage_eq hused hdays htotal hstamp hrides

/-- Settles O24: each task by the state of the day it holds. -/
theorem tasksSettleTheirDay : Obligations.TasksSettleTheirDay := by
  refine ⟨fun s k a left => ?_, fun u a => ?_, fun c r => void_admitHeld c r, fun s k a left => ?_⟩
  · intro task
    refine ⟨fun r d h hlaw hrec hd hday => ?_, fun h => ?_⟩
    · exact ⟨_, rfl, serveConfirm_settles hlaw hrec hd hday⟩
    · change serveConfirm s a = s
      refine serveConfirm_of_not_provisional fun r d n hrec hd hday => ?_
      obtain hnone | hnone | ⟨r', d', hrec', hd', hday'⟩ := h
      · simp [hnone] at hrec
      · simp [hnone] at hd
      · rw [hrec, Option.some.injEq] at hrec'
        rw [hd, Option.some.injEq] at hd'
        subst hrec' hd'
        simp [hday] at hday'
  · obtain ⟨hrestored, hkept⟩ := void_stamp_rides u a
    obtain ⟨hdays, htotal⟩ := void_refunded u a
    refine ⟨hrestored, hkept, fun d h hd hday => ?_, fun h => ?_, hdays, htotal⟩
    · rw [void_used, hd]
      exact voidDay_of_provisional hday
    · rw [void_used]
      obtain hnone | ⟨d, hd, hday⟩ := h
      · rw [hnone]
      · rw [hd]
        exact voidDay_of_not_provisional fun n hn => by simp [hn] at hday
  · intro task
    change (_ → serveVoid s a = s) ∧ ∀ r, _ → serveVoid s a = _
    unfold serveVoid
    refine ⟨fun hrec => by rw [hrec], fun r hrec => ?_⟩
    rw [hrec]
    rfl

end Sys2Proof.Machine
end

section
/-! PROOF. PORT RESET (section 9.6): what it leaves at a station port and at a lane port, and the port's request that it meets in
service. -/

namespace Sys2Proof.Machine

variable {s s1 : State} {p : Port} {tag : Byte} {i : StationId} {k : LaneId} {r : Request}

/-! ## At a station port -/

theorem portReset_dataOut (s : State) (p : Port) (tag : Byte) : (portReset s p tag).dataOut p = [] := by
  unfold State.dataOut
  rw [portReset_port, if_pos rfl]
  rfl

theorem portReset_positions (s : State) (p : Port) (tag : Byte) :
    ((portReset s p tag).port p).positions = [.ready { kind := 0x03, tag := tag, code := .ok, body := [] }] := by
  rw [portReset_port, if_pos rfl]
  rfl

theorem portReset_port_of_ne (s : State) {p q : Port} (tag : Byte) (h : q ≠ p) : (portReset s p tag).port q = s.port q := by
  rw [portReset_port, if_neg h]

theorem portReset_noticePort (s : State) (i j : StationId) (tag : Byte) :
    (portReset s (.station i) tag).noticePort j = if j = i then NoticePort.reset else s.noticePort j := by
  change (State.setNoticePort _ i NoticePort.reset).noticePort j = _
  rw [setNoticePort_noticePort]
  rfl

theorem portReset_station (s : State) (i : StationId) (tag : Byte) :
    (portReset s (.station i) tag).staging = s.staging.portReset i ∧
      (portReset s (.station i) tag).postsInFlight = s.postsInFlight ++ s.staging.portResetPosts i := ⟨rfl, rfl⟩

/-- An OPEN buffer is abandoned by its owner's reset alone (R137). -/
theorem portReset_opened {b : Buffer} {mark : Nat} (hs : s.staging = .opened b mark) :
    (b.owner = i → (portReset s (.station i) tag).staging = .empty ∧
        (portReset s (.station i) tag).postsInFlight = s.postsInFlight ++ [.staging b.page .abandoned]) ∧
      (b.owner ≠ i → (portReset s (.station i) tag).staging = s.staging ∧
        (portReset s (.station i) tag).postsInFlight = s.postsInFlight) := by
  obtain ⟨hstaging, hposts⟩ := portReset_station s i tag
  rw [hstaging, hposts, hs, Staging.portReset, Staging.portResetPosts]
  refine ⟨fun h => ⟨if_pos h, by rw [if_pos h]⟩, fun h => ⟨if_neg h, by rw [if_neg h, List.append_nil]⟩⟩

/-- A commit runs on, disowned by its owner's reset (R137). -/
theorem portReset_committing {b : Buffer} {w : PageWrite} (hs : s.staging = .committing b w) :
    (portReset s (.station i) tag).postsInFlight = s.postsInFlight ∧
      (portReset s (.station i) tag).staging = .committing b { w with disowned := w.disowned || b.owner == i } := by
  obtain ⟨hstaging, hposts⟩ := portReset_station s i tag
  rw [hstaging, hposts, hs, Staging.portReset, Staging.portResetPosts, List.append_nil]
  refine ⟨rfl, ?_⟩
  by_cases h : b.owner = i
  · simp [h]
  · rw [if_neg h, beq_eq_false_iff_ne.mpr h, Bool.or_false]

/-! ## At a lane port -/

/-- The lane has its LINK_RESET, and LANE_STATE is posted where that changed the lane (R60, R62). -/
theorem causeEvent_posts (lc : LaneCtx) (cause : ErrorCause) (l : Lane) :
    (causeEvent lc cause l).posts =
      if raiseCause cause l = l then [] else [(raiseCause cause l).stateDetail lc.k] := by
  unfold causeEvent withStatePost
  by_cases h : raiseCause cause l = l
  · rw [if_pos ((raiseCause_eq_iff cause lc.k l).mpr h), if_pos h]
  · rw [if_neg fun heq => h ((raiseCause_eq_iff cause lc.k l).mp heq), if_neg h]
    rfl

/-- The state that the lane unit finds at the reset: the port and the engine's holdings have been reset (R27, R162). -/
theorem portReset_lane_eq (s : State) (k : LaneId) (tag : Byte) :
    portReset s (.lane k) tag =
      ({ s.setPort (.lane k) ((s.port (.lane k)).portReset tag) with engine := s.engine.portReset (.lane k) } : State).applyLane k
        (causeEvent (s.laneCtx k) .linkReset (s.lane k)) := rfl

theorem portReset_lane (s : State) (k j : LaneId) (tag : Byte) :
    (portReset s (.lane k) tag).lane j = if j = k then raiseCause .linkReset (s.lane k) else s.lane j := by
  rw [portReset_lane_eq, applyLane_lane, causeEvent_lane]
  rfl

theorem portReset_lane_posts (s : State) (k : LaneId) (tag : Byte) :
    (portReset s (.lane k) tag).postsInFlight =
      s.postsInFlight ++
        if raiseCause .linkReset (s.lane k) = s.lane k then [] else [(raiseCause .linkReset (s.lane k)).stateDetail k] := by
  rw [portReset_lane_eq, applyLane_postsInFlight, causeEvent_posts]
  rfl

/-! ## The request in service -/

theorem exec_portReset_serviceFirst (s : State) (p : Port) (tag : Byte) (body : List Byte) :
    exec (.portReset p tag ⟨body, .serviceFirst⟩) s = .next (portResetInService s p tag) := rfl

/-- The work that the engine would take next is in service when it is a request of the port, not to be deferred (R22, R24). -/
theorem inService_of_cases (hnext : s.engine.nextTask = none) (hport : r.port = p)
    (h : (s.pageBusy = none ∧ ∃ rest, s.engine.deferred = .request r :: rest ∧
          s1 = { s with engine := { s.engine with deferred := rest } }) ∨
      ((s.pageBusy ≠ none ∨ s.engine.deferred = []) ∧ s.engine.choose s.profile.policy = some r ∧
        (∀ op, engineOp r.kind r.body = some op → s.meetsBusy op.needs = false) ∧
        s1 = { s with engine := s.engine.takeRequest p })) :
    inService s p = some (s1, r) := by
  obtain ⟨hfree, rest, hd, rfl⟩ | ⟨hfirst, hchoose, hbusy, rfl⟩ := h
  · simp only [inService, hnext, hfree, hd, deferredInService, if_pos hport]
  · have hpending : pendingInService s p = some ({ s with engine := s.engine.takeRequest p }, r) := by
      have hmeets : s.meetsBusy ((engineOp r.kind r.body).bind EngineOp.needs) = false := by
        cases hop : engineOp r.kind r.body with
        | none => rfl
        | some op => exact hbusy op hop
      simp only [pendingInService, hchoose]
      exact if_pos ⟨hport, hmeets⟩
    rw [← hpending]
    unfold inService
    rw [hnext]
    cases hbusy : s.pageBusy with
    | some page => rfl
    | none =>
      rw [hfirst.resolve_left fun h => h hbusy]

/-- Where no request of the port can be in service, both orders are one (R162). -/
theorem inService_eq_none (h : s.engine.nextTask ≠ none ∨
    ((∀ r ∈ s.engine.pendingSet, r.port ≠ p) ∧ ∀ w ∈ s.engine.deferred, w.isOf p = false)) : inService s p = none := by
  cases hserving : inService s p with
  | none => rfl
  | some found =>
    obtain ⟨hnext, hport, hcases⟩ := inService_cases hserving
    obtain hbusy | ⟨hpending, hdeferred⟩ := h
    · exact absurd hnext hbusy
    · obtain ⟨-, rest, hd, -⟩ | ⟨-, hchoose, -⟩ := hcases
      · have hof := hdeferred (.request found.2) (hd ▸ List.mem_cons_self)
        simp [Work.isOf, hport] at hof
      · exact absurd hport (hpending found.2 (mem_of_choose hchoose).1)

/-- A response for a port that has just been reset is dropped (R27). -/
theorem respond_portReset (s : State) (p : Port) (tag : Byte) (code : Code) (body : List Byte) :
    (portReset s p tag).respond p code body = portReset s p tag := by
  have hlawful : ((portReset s p tag).port p).lawful := by
    rw [portReset_port, if_pos rfl]
    exact PortState.lawful.portReset tag
  have hnone : ((portReset s p tag).port p).reservedCount = 0 := by
    rw [portReset_port, if_pos rfl]
    rfl
  rw [State.respond, hlawful.answer_eq_self hnone, setPort_port_self]

/-- The request in service is served after the reset (R27, R162, log entry 40). -/
theorem exec_portReset_of_inService (hday : s.dayDue = false) (h : inService s p = some (s1, r)) (body : List Byte) :
    exec (.portReset p tag ⟨body, .serviceFirst⟩) s = .next (serveWork (portReset s1 p tag) (.request r)) := by
  have hsettled : settleDay s = s := settleDay_of_not_due (by simp [hday])
  rw [exec_portReset_serviceFirst, portResetInService_some tag (by rw [hsettled]; exact h)]

/-! ## An ADMIT in service -/

theorem engineOp_admitPass {serial : Nat} (h : serial < 2 ^ 32) :
    engineOp .admitPass (beBytes 4 serial) = some (.admitPass serial) := by
  rw [engineOp, oneSerial, oneNumber_beBytes 4 serial h]
  rfl

/-- The record changed reads back changed (R10). -/
theorem record_setRecord {serial : Nat} {q : PassRecord} {f : PassRecord → PassRecord} (hrec : s.record serial = some q)
    (hf : ∀ x, (f x).ent = x.ent) : (s.setRecord serial f).record serial = some (f q) := by
  have hserial : q.ent.serial = serial := (record_mem hrec).2.2
  have hkept (x : PassRecord) : (if x.ent.serial = serial then f x else x).ent.serial = x.ent.serial := by
    split
    · rw [hf]
    · rfl
  unfold State.record findRecord at hrec ⊢
  by_cases hzero : serial = 0
  · rw [if_pos hzero] at hrec
    cases hrec
  · rw [if_neg hzero] at hrec ⊢
    change (updateRecord s.store serial f).find? _ = _
    rw [updateRecord, List.find?_map]
    have hsame : ((fun x : PassRecord => x.ent.serial == serial) ∘ fun x => if x.ent.serial = serial then f x else x) =
        fun x => x.ent.serial == serial := by
      funext x
      rw [Function.comp_apply, hkept]
    rw [hsame, hrec, Option.map_some, if_pos hserial]

theorem joinEntry_inflight_of_attended {lc : LaneCtx} {l : Lane} (kind : EntryKind) (hstate : l.current = .attended)
    (h : 0 < lc.timeout) :
    (joinEntry lc l (newEntry lc kind)).lane.inflight = l.inflight ++ [newEntry lc kind] ∧
      (joinEntry lc l (newEntry lc kind)).lane.current = .attended := by
  rw [joinEntry_eq kind (.inr hstate) h]
  refine ⟨?_, hstate⟩
  have hwaits : ¬ (l.inflight = [] ∧ l.current = .self) := fun hself => by simp [hstate] at hself
  simp only [if_neg hwaits]
  rfl

/-- An admission into a lane in ATTENDED: the entry waits at the end of the list, and the record is changed (R43, R44, R64). -/
theorem serveAdmitLane_attended {serial : Nat} {q : PassRecord} {consumed : Bool} (hstate : (s.lane k).current = .attended)
    (hroom : (s.lane k).inflight.length < 2) (htimeout : 0 < s.profile.passTimeout) (hrec : s.record serial = some q)
    (hv : verdict (s.admitCtx k) (some q) = if consumed then .consume else .reride) :
    ((serveAdmitLane s k serial).state.lane k).current = .attended ∧
      ((serveAdmitLane s k serial).state.lane k).inflight =
        (s.lane k).inflight ++ [newEntry (s.laneCtx k) (.pass (admissionOf (s.admitCtx k) q))] ∧
      (serveAdmitLane s k serial).state.record serial = some { q with usage := q.usage.admitHeld (s.admitCtx k) } ∧
      ∀ p, (serveAdmitLane s k serial).state.port p = s.port p := by
  obtain ⟨hinflight, hcurrent⟩ := joinEntry_inflight_of_attended (lc := s.laneCtx k)
    (.pass (admissionOf (s.admitCtx k) q)) hstate (Nat.mul_pos htimeout (by decide))
  rw [serveAdmitLane_held (.inr hstate) hroom hrec hv]
  refine ⟨?_, ?_, ?_, fun p => ?_⟩
  · rw [applyLane_lane, if_pos rfl]
    exact hcurrent
  · rw [applyLane_lane, if_pos rfl]
    exact hinflight
  · exact record_setRecord hrec fun _ => rfl
  · cases p <;> rfl

theorem portReset_station_effect (s : State) (i : StationId) (tag : Byte) :
    let t := portReset s (.station i) tag
    t.noticePort i = { queue := [], mask := 0x03FF } ∧ (∀ j, j ≠ i → t.noticePort j = s.noticePort j) ∧
      (s.staging = .empty → t.staging = .empty ∧ t.postsInFlight = s.postsInFlight) ∧
      t.store = s.store ∧ t.refund = s.refund ∧ t.lanes = s.lanes ∧ t.count = s.count ∧ t.timebase = s.timebase ∧
      t.profile = s.profile ∧ t.phase = s.phase ∧ t.elapsed = s.elapsed ∧ t.restartDue = s.restartDue ∧
      t.countsInFlight = s.countsInFlight := by
  refine ⟨?_, fun j hj => ?_, fun hs => ?_, rfl, rfl, rfl, rfl, rfl, rfl, rfl, rfl, rfl, rfl⟩
  · rw [portReset_noticePort, if_pos rfl]
    rfl
  · rw [portReset_noticePort, if_neg hj]
  · obtain ⟨hstaging, hposts⟩ := portReset_station s i tag
    rw [hstaging, hposts, hs]
    exact ⟨rfl, List.append_nil _⟩

theorem portReset_lane_effect (s : State) (k : LaneId) (tag : Byte) :
    let t := portReset s (.lane k) tag
    t.lane k =
        { s.lane k with
          errorFlag := true
          firstCause := if (s.lane k).errorFlag then (s.lane k).firstCause else some .linkReset
          causeLink := true
          current :=
            if (s.lane k).current = .self ∨ (s.lane k).current = .observe then .attended else (s.lane k).current
          output := if (s.lane k).current = .observe then false else (s.lane k).output } ∧
      (∀ j, j ≠ k → t.lane j = s.lane j) ∧
      t.postsInFlight = s.postsInFlight ++ (if t.lane k = s.lane k then [] else [(t.lane k).stateDetail k]) ∧
      t.staging = s.staging ∧ t.notices = s.notices ∧ t.store = s.store ∧ t.refund = s.refund ∧ t.count = s.count ∧
      t.timebase = s.timebase ∧ t.profile = s.profile ∧ t.phase = s.phase ∧ t.elapsed = s.elapsed ∧
      t.restartDue = s.restartDue ∧ t.countsInFlight = s.countsInFlight := by
  refine ⟨?_, fun j hj => ?_, ?_, ?_⟩
  · rw [portReset_lane, if_pos rfl]
    simp [raiseCause]
  · rw [portReset_lane, if_neg hj]
  · rw [portReset_lane, if_pos rfl]
    exact portReset_lane_posts s k tag
  · simp [portReset_lane_eq]

/-- What an ADMIT in service leaves when the reset of its lane's port meets it (R45, log entry 40). -/
theorem portResetInService_admit {serial : Nat} {q : PassRecord} {consumed : Bool}
    (hstate : (s.lane k).current = .self ∨ (s.lane k).current = .attended) (hroom : (s.lane k).inflight.length < 2)
    (htimeout : 0 < s.profile.passTimeout) (hrec : s.record serial = some q)
    (hv : verdict (s.admitCtx k) (some q) = if consumed then .consume else .reride) :
    let t := serveRequest (portReset s (.lane k) tag) (.lane k) (.admitPass serial)
    ∃ e a, (t.lane k).current = .attended ∧ (t.lane k).inflight = (s.lane k).inflight ++ [e] ∧ e.kind = .pass a ∧
      a.serial = serial ∧ e.release = none ∧ t.record serial = some { q with usage := q.usage.admitHeld (s.admitCtx k) } ∧
      (t.port (.lane k)).positions = [.ready { kind := 0x03, tag := tag, code := .ok, body := [] }] := by
  let u := portReset s (.lane k) tag
  have hlane : u.lane k = raiseCause .linkReset (s.lane k) := (portReset_lane s k k tag).trans (if_pos rfl)
  have hattended : (u.lane k).current = .attended := by
    rw [hlane]
    rcases hstate with h | h <;> simp [raiseCause, h]
  have hinflight : (u.lane k).inflight = (s.lane k).inflight := by rw [hlane, raiseCause_inflight]
  obtain ⟨hcurrent, hlist, hrecord, hport⟩ :=
    serveAdmitLane_attended (s := u) hattended (by rw [hinflight]; exact hroom) htimeout hrec hv
  have hserved : serveRequest u (.lane k) (.admitPass serial) = (serveAdmitLane u k serial).answerAt (.lane k) := rfl
  refine ⟨newEntry (u.laneCtx k) (.pass (admissionOf (u.admitCtx k) q)), admissionOf (u.admitCtx k) q, ?_⟩
  rw [hserved, Served.answerAt, respond_lane]
  refine ⟨hcurrent, hinflight ▸ hlist, rfl, (record_mem hrec).2.2, rfl, ?_, ?_⟩
  · rw [State.record, respond_store]
    exact hrecord
  · have hpositions := portReset_positions s (.lane k) tag
    rw [State.respond, setPort_port, if_pos rfl, hport, PortState.answer, hpositions]
    rfl

/-- Settles O10: the reset by each block it is handed to, and the request in service by the work the engine would take next. -/
theorem portResetEffect : Obligations.PortResetEffect := by
  refine ⟨fun s i tag body => ?_, fun s k tag body => ?_,
    fun s p tag body => ⟨fun s1 u r hday hnext hport hcases hu => ?_, fun h => ?_⟩,
    fun s k tag body r serial q consumed hday hnext hfirst hchoose hport hkind hbody hserial hpage hstate hroom htimeout hrec hv =>
      ?_⟩
  · obtain ⟨hnotices, hothers, hempty, hrest⟩ := portReset_station_effect s i tag
    exact ⟨portReset s (.station i) tag, rfl, portReset_positions s _ tag, portReset_dataOut s _ tag,
      fun q hq => portReset_port_of_ne s tag hq, portReset_engine _ tag, hnotices, hothers, hempty,
      fun b mark hs => portReset_opened hs, fun b w hs => portReset_committing hs, hrest⟩
  · exact ⟨portReset s (.lane k) tag, rfl, portReset_positions s _ tag, portReset_dataOut s _ tag,
      fun q hq => portReset_port_of_ne s tag hq, portReset_engine _ tag, portReset_lane_effect s k tag⟩
  · obtain rfl := Host.Outcome.next.inj hu
    have hserving := inService_of_cases hnext hport hcases
    rw [exec_portReset_of_inService hday hserving]
    refine ⟨fun op hop => ?_, fun hop => ?_⟩ <;> unfold serveWork <;> dsimp only <;> rw [hop]
    · rw [hport]
      rfl
    · dsimp only
      rw [refuseForm, hport, respond_portReset]
  · have hnone : inService (settleDay s) p = none := by
      refine inService_eq_none ?_
      rw [settleDay_engine]
      exact h
    rw [exec_portReset_serviceFirst, portResetInService_none tag hnone]
    rfl
  · have hop : engineOp r.kind r.body = some (.admitPass serial) := by
      rw [hkind, hbody]
      exact engineOp_admitPass hserial
    have hfree : s.meetsBusy (EngineOp.admitPass serial).needs = false := by
      rw [← Bool.not_eq_true, meetsBusy_iff]
      rintro ⟨hsome, heq⟩
      refine hpage (heq.symm.trans ?_)
      change pageOfSerial serial = _
      change (pageOfSerial serial).isSome = true at hsome
      unfold pageOfSerial at hsome ⊢
      split
      · simp_all
      · rfl
    have hserving : inService s (.lane k) = some ({ s with engine := s.engine.takeRequest (.lane k) }, r) :=
      inService_of_cases hnext hport (.inr ⟨hfirst, hchoose, fun op hop' => Option.some.inj (hop.symm.trans hop') ▸ hfree, rfl⟩)
    obtain ⟨e, a, hresult⟩ := portResetInService_admit (s := { s with engine := s.engine.takeRequest (.lane k) }) (tag := tag)
      hstate hroom htimeout hrec hv
    refine ⟨_, e, a, ?_, hresult⟩
    rw [exec_portReset_of_inService hday hserving, serveWork, hop, hport]

end Sys2Proof.Machine
end

section
/-! PROOF. The order in which the engine takes work (sections 2.2 and 2.4), the port that the policy chooses, and the bodies with
which the engine refuses a form. -/

namespace Sys2Proof.Machine

variable {s : State} {e : Engine} {policy : Policy} {pointer : Port}

/-! ## The policy -/

theorem eligible_iff (e : Engine) (r : Request) :
    e.eligible r = true ↔ r.left = false ∧ (r.kind = .admitPass → ∀ t : Task, t ∉ e.tasks) := by
  simp [Engine.eligible, List.eq_nil_iff_forall_not_mem, or_iff_not_imp_left]

/-- The order of the policy is the order in which it looks at the ports (R23). -/
theorem portOrder_pairwise (policy : Policy) (pointer : Port) : (portOrder policy pointer).Pairwise (looksFirst policy pointer) := by
  cases policy <;> unfold looksFirst <;> dsimp only <;> cases pointer <;> decide +revert

theorem mem_portOrder (policy : Policy) (pointer p : Port) : p ∈ portOrder policy pointer := by
  cases policy <;> cases pointer <;> cases p <;> decide +revert

theorem looksFirst_asymm {p q : Port} (h : looksFirst policy pointer p q) : ¬ looksFirst policy pointer q p := by
  cases policy <;> simp only [looksFirst] at h ⊢
  · omega
  all_goals
    rintro (⟨hq, hp⟩ | ⟨heq, hlt⟩)
    · simp [hp, hq] at h
    · simp only [heq] at h
      rcases h with ⟨hp, hq⟩ | ⟨-, hlt'⟩
      · simp [hp] at hq
      · omega

/-- A port's eligible entry is the one that the set holds for it (R20). -/
theorem eligibleAt_eq_some_iff (h : e.onePerPort) {p : Port} {r : Request} :
    e.eligibleAt p = some r ↔ r ∈ e.pendingSet ∧ e.eligible r = true ∧ r.port = p := by
  refine ⟨fun hfind => ?_, fun ⟨hr, heligible, hport⟩ => ?_⟩
  · have hsome := List.find?_some hfind
    simp only [Bool.and_eq_true, beq_iff_eq] at hsome
    exact ⟨List.mem_of_find?_eq_some hfind, hsome.2, hsome.1⟩
  · cases hfind : e.eligibleAt p with
    | none =>
      have hnot := List.find?_eq_none.mp hfind r hr
      simp [hport, heligible] at hnot
    | some q =>
      have hsome := List.find?_some hfind
      simp only [Bool.and_eq_true, beq_iff_eq] at hsome
      rw [List.inj_on_of_nodup_map h (List.mem_of_find?_eq_some hfind) hr (hsome.1.trans hport.symm)]

theorem choose_eq_none_iff (h : e.onePerPort) : e.choose policy = none ↔ ∀ r ∈ e.pendingSet, e.eligible r = false := by
  rw [Engine.choose, List.findSome?_eq_none_iff]
  refine ⟨fun hnone r hr => ?_, fun hnone p _ => ?_⟩
  · by_contra heligible
    rw [Bool.not_eq_false] at heligible
    have hsome := (eligibleAt_eq_some_iff h).mpr ⟨hr, heligible, rfl⟩
    simp [hnone r.port (mem_portOrder ..)] at hsome
  · cases hat : e.eligibleAt p with
    | none => rfl
    | some r =>
      obtain ⟨hr, heligible, -⟩ := (eligibleAt_eq_some_iff h).mp hat
      simp [hnone r hr] at heligible

/-- The chosen entry's port is looked at before those of all other eligible entries (R22, R23). -/
theorem choose_eq_some_iff (h : e.onePerPort) {r : Request} :
    e.choose policy = some r ↔
      r ∈ e.pendingSet ∧ e.eligible r = true ∧
        ∀ q ∈ e.pendingSet, e.eligible q = true → q ≠ r → looksFirst policy e.pointer r.port q.port := by
  have hpairwise := portOrder_pairwise policy e.pointer
  rw [Engine.choose]
  constructor
  · rw [List.findSome?_eq_some_iff]
    rintro ⟨before, p, after, horder, hat, hnone⟩
    obtain ⟨hr, heligible, rfl⟩ := (eligibleAt_eq_some_iff h).mp hat
    refine ⟨hr, heligible, fun q hq hqe hne => ?_⟩
    have hqat := (eligibleAt_eq_some_iff h).mpr ⟨hq, hqe, rfl⟩
    have hport : q.port ≠ r.port := fun heq => hne (List.inj_on_of_nodup_map h hq hr heq)
    have hmem := mem_portOrder policy e.pointer q.port
    rw [horder] at hpairwise hmem
    obtain hbefore | hafter := List.mem_append.mp hmem
    · simp [hnone q.port hbefore] at hqat
    · exact (List.pairwise_cons.mp (List.pairwise_append.mp hpairwise).2.1).1 q.port ((List.mem_cons.mp hafter).resolve_left hport)
  · rintro ⟨hr, heligible, hfirst⟩
    obtain ⟨before, after, horder⟩ := List.append_of_mem (mem_portOrder policy e.pointer r.port)
    rw [List.findSome?_eq_some_iff]
    refine ⟨before, r.port, after, horder, (eligibleAt_eq_some_iff h).mpr ⟨hr, heligible, rfl⟩, fun p hp => ?_⟩
    cases hat : e.eligibleAt p with
    | none => rfl
    | some q =>
      obtain ⟨hq, hqe, rfl⟩ := (eligibleAt_eq_some_iff h).mp hat
      rw [horder] at hpairwise
      have hlooks : looksFirst policy e.pointer q.port r.port :=
        (List.pairwise_append.mp hpairwise).2.2 q.port hp r.port List.mem_cons_self
      have hne : q ≠ r := fun heq => looksFirst_asymm (heq ▸ hlooks) (heq ▸ hlooks)
      exact absurd (hfirst q hq hqe hne) (looksFirst_asymm hlooks)

/-- Settles O17: the first port of the policy's order that has an eligible entry. -/
theorem policyChoosesTheFirstPort : Obligations.PolicyChoosesTheFirstPort :=
  ⟨eligible_iff, fun _ _ h => ⟨choose_eq_none_iff h, fun _ => choose_eq_some_iff h⟩⟩

/-! ## One taking -/

theorem takeWork_of_task {t : Task} (h : s.engine.nextTask = some t) : takeWork s = takeTask s t := by
  unfold takeWork
  rw [h]

theorem takeWork_of_deferred {w : Work} {rest : List Work} (hnext : s.engine.nextTask = none) (hfree : s.pageBusy = none)
    (h : s.engine.deferred = w :: rest) :
    takeWork s = serveWork { s with engine := { s.engine with deferred := rest } } w := by
  unfold takeWork
  rw [hnext, hfree, h]

theorem takeWork_of_pending (hnext : s.engine.nextTask = none) (hfirst : s.pageBusy ≠ none ∨ s.engine.deferred = []) :
    takeWork s = takePending s := by
  unfold takeWork
  rw [hnext]
  cases hbusy : s.pageBusy with
  | some page => rfl
  | none => rw [hfirst.resolve_left fun h => h hbusy]

theorem takePending_of_choose {r : Request} (h : s.engine.choose s.profile.policy = some r) : takePending s = takeRequest s r := by
  unfold takePending
  rw [h]

theorem takePending_of_choose_none (h : s.engine.choose s.profile.policy = none) : takePending s = s := by
  unfold takePending
  rw [h]

/-- With a page busy, deferred work waits for it. -/
theorem takeWork_of_choose {r : Request} (hnext : s.engine.nextTask = none) (hfirst : s.pageBusy ≠ none ∨ s.engine.deferred = [])
    (h : s.engine.choose s.profile.policy = some r) : takeWork s = takeRequest s r := by
  rw [takeWork_of_pending hnext hfirst, takePending_of_choose h]

theorem hasRoom_iff {e : Engine} : e.hasRoom = true ↔ e.deferred.length < 8 := decide_eq_true_iff

theorem takeTask_served {t : Task} (h : s.meetsBusy (pageOfSerial t.pass.serial) = false) :
    takeTask s t = serveTask { s with engine := s.engine.dropTask } t := by
  simp [takeTask, h]

theorem takeTask_deferred {t : Task} (h : s.meetsBusy (pageOfSerial t.pass.serial) = true) (hroom : s.engine.deferred.length < 8) :
    takeTask s t = { s with engine := s.engine.dropTask.defer (.task t) } := by
  simp [takeTask, h, hasRoom_iff.mpr hroom]

theorem takeTask_left {t : Task} (h : s.meetsBusy (pageOfSerial t.pass.serial) = true) (hfull : 8 ≤ s.engine.deferred.length) :
    takeTask s t = { s with engine := { s.engine with tasks := leaveTask s.engine.tasks } } := by
  simp [takeTask, h, hasRoom_iff, Nat.not_lt.mpr hfull]

theorem takeRequest_formless {r : Request} (h : engineOp r.kind r.body = none) :
    takeRequest s r = refuseForm { s with engine := s.engine.takeRequest r.port } r := by
  simp [takeRequest, h]

theorem takeRequest_served {r : Request} {op : EngineOp} (hop : engineOp r.kind r.body = some op) (h : s.meetsBusy op.needs = false) :
    takeRequest s r = serveRequest { s with engine := s.engine.takeRequest r.port } r.port op := by
  simp [takeRequest, hop, h]

theorem takeRequest_deferred {r : Request} {op : EngineOp} (hop : engineOp r.kind r.body = some op)
    (h : s.meetsBusy op.needs = true) (hroom : s.engine.deferred.length < 8) :
    takeRequest s r = { s with engine := (s.engine.takeRequest r.port).defer (.request r) } := by
  simp [takeRequest, hop, h, hasRoom_iff.mpr hroom]

theorem takeRequest_left {r : Request} {op : EngineOp} (hop : engineOp r.kind r.body = some op)
    (h : s.meetsBusy op.needs = true) (hfull : 8 ≤ s.engine.deferred.length) :
    takeRequest s r = { s with engine := s.engine.leaveRequest r.port } := by
  simp [takeRequest, hop, h, hasRoom_iff, Nat.not_lt.mpr hfull]

theorem exec_engineTakeWork (hday : s.dayDue = false) : exec .engineTakeWork s = .next (takeWork s) := by
  have hsettled : settleDay s = s := settleDay_of_not_due (by simp [hday])
  change Host.Outcome.next (takeWork (settleDay s)) = _
  rw [hsettled]

/-- The oldest task that can be taken is the one left in place (R24). -/
theorem leaveTask_split {ts : List Task} {t : Task} (h : ts.find? (fun t => !t.left) = some t) :
    ∃ before after, ts = before ++ t :: after ∧ (∀ q ∈ before, q.left = true) ∧
      leaveTask ts = before ++ { t with left := true } :: after := by
  induction ts with
  | nil => cases h
  | cons q rest ih =>
    by_cases hq : q.left = true
    · rw [List.find?_cons_of_neg (by simp [hq])] at h
      obtain ⟨before, after, hsplit, hleft, hleave⟩ := ih h
      refine ⟨q :: before, after, by rw [hsplit, List.cons_append], List.forall_mem_cons.mpr ⟨hq, hleft⟩, ?_⟩
      rw [leaveTask, if_pos hq, hleave, List.cons_append]
    · rw [List.find?_cons_of_pos (by simpa using hq), Option.some.injEq] at h
      subst h
      exact ⟨[], rest, rfl, by simp, if_neg hq⟩

/-- After a day change none is due. -/
theorem dayDue_settleDay (h : s.dayDue = true) : (settleDay s).dayDue = false := by
  rw [settleDay_of_due h, ← Bool.not_eq_true, dayDue_iff]
  exact fun hdue => hdue.2 rfl

/-! ## The refusal of a form -/

/-- The serial that a refusal echoes is the body's first four bytes, if it has them (R48, R115). -/
theorem beBytes_echoedSerial (body : List Byte) :
    beBytes 4 (echoedSerial body) = if 4 ≤ body.length then body.take 4 else zeros 4 := by
  unfold echoedSerial
  split
  · rename_i hlength
    have hfour : (body.take 4).length = 4 := by
      rw [List.length_take]
      omega
    have hback := beBytes_ofBytes (body.take 4)
    rw [hfour] at hback
    exact hback
  · rfl

/-- The fixed bodies of BAD_ARGUMENT, by kind (R166). -/
theorem engineBadBody_zeros (locked : Bool) (body : List Byte) :
    ∀ entry ∈ [(Kind.passRead, 40), (.block, 6), (.unblock, 6), (.pageOpen, 3), (.recordPut, 9), (.recordDrop, 5), (.stagingRead, 7),
      (.pageCommit, 12), (.pageAbandon, 2), (.tariffPut, 52), (.tariffRead, 53), (.journalRead, 11), (.journalRelease, 8)],
      engineBadBody locked entry.1 body = List.replicate entry.2 0 := by
  simp only [List.forall_mem_cons]
  exact ⟨rfl, rfl, rfl, rfl, rfl, rfl, rfl, rfl, rfl, rfl, rfl, rfl, rfl, by simp⟩

/-- Settles O15: the branches of one taking, the work for the busy page, and a day change before it. -/
theorem engineTakesWorkInOrder : Obligations.EngineTakesWorkInOrder := by
  refine ⟨fun s hday => ⟨fun t hnext hfree => ?_, fun hnext hfree w rest hd => ?_, fun hnext hfirst => ⟨fun hchoose => ?_,
      fun r hchoose => ⟨fun hop => ?_, fun op hop hfree => ?_⟩⟩⟩,
    fun s page hday hbusy => ⟨fun t hnext hpage => ?_, fun r op hnext hchoose hop hpage => ?_⟩, fun s hdue => ?_,
    fun locked body => ?_⟩
  · rw [exec_engineTakeWork hday, takeWork_of_task hnext, takeTask_served hfree]
  · rw [exec_engineTakeWork hday, takeWork_of_deferred hnext hfree hd]
  · rw [exec_engineTakeWork hday, takeWork_of_pending hnext hfirst, takePending_of_choose_none hchoose]
  · rw [exec_engineTakeWork hday, takeWork_of_choose hnext hfirst hchoose, takeRequest_formless hop]
    rfl
  · rw [exec_engineTakeWork hday, takeWork_of_choose hnext hfirst hchoose, takeRequest_served hop hfree]
    rfl
  · have hmeets : s.meetsBusy (pageOfSerial t.pass.serial) = true := by
      simp [hpage, meetsBusy_iff, hbusy]
    rw [exec_engineTakeWork hday, takeWork_of_task hnext]
    refine ⟨fun hroom => ?_, fun hfull => ?_⟩
    · rw [takeTask_deferred hmeets hroom]
      rfl
    · obtain ⟨before, after, hsplit, hleft, hleave⟩ := leaveTask_split hnext
      exact ⟨before, after, hsplit, hleft, by rw [takeTask_left hmeets hfull, hleave]⟩
  · have hmeets : s.meetsBusy op.needs = true := by simp [hpage, meetsBusy_iff, hbusy]
    rw [exec_engineTakeWork hday, takeWork_of_choose hnext (.inl (by simp [hbusy])) hchoose]
    refine ⟨fun hroom => ?_, fun hfull => ?_⟩
    · rw [takeRequest_deferred hop hmeets hroom]
      rfl
    · rw [takeRequest_left hop hmeets hfull]
      rfl
  · refine ⟨settleDay s, rfl, dayDue_settleDay hdue, ?_, ?_, ?_⟩
    · rw [settleDay_of_due hdue]
      rfl
    · rw [settleDay_of_due hdue]
    · rw [exec_engineTakeWork (dayDue_settleDay hdue)]
      rfl
  · refine ⟨?_, ?_, ?_, rfl, fun k n hmem => engineBadBody_zeros locked body (k, n) hmem⟩
    all_goals exact congrArg (· ++ zeros _) (beBytes_echoedSerial body)

end Sys2Proof.Machine
end

section
/-! PROOF. A page write under way and its page while the engine takes work: the write stays, and no serial and no usage part of the
page changes (section 1.6). -/

namespace Sys2Proof.Machine

variable {s₀ s t : State} {b : Buffer} {w : PageWrite} {store : List PassRecord} {page : Nat} {content : List (Nat × Usage)}

/-- The serials of a page with their usage parts (R14). -/
def pageContent (store : List PassRecord) (page : Nat) : List (Nat × Usage) :=
  (pageRecords store page).map (fun r => (r.ent.serial, r.usage))

theorem pageContent_map {f : PassRecord → PassRecord} (hserial : ∀ r, (f r).ent.serial = r.ent.serial)
    (husage : ∀ r ∈ store, homePage r.ent.serial = page → (f r).usage = r.usage) :
    pageContent (store.map f) page = pageContent store page := by
  unfold pageContent
  rw [pageRecords_map hserial, List.map_map]
  refine List.map_congr_left fun r hr => ?_
  obtain ⟨hr, hpage⟩ := mem_pageRecords.mp hr
  rw [Function.comp_apply, hserial, husage r hr hpage]

/-- A write of a page is under way that has the page, the owner and the image of the one begun, and the page holds what it held. -/
structure WriteStands (b : Buffer) (w : PageWrite) (content : List (Nat × Usage)) (s : State) : Prop where
  write : ∃ b', s.staging = .committing b' w ∧ b'.page = b.page ∧ b'.owner = b.owner
  content : pageContent s.store b.page = content

theorem WriteStands.of_same (h : WriteStands b w content s) (hstore : t.store = s.store) (hstaging : t.staging = s.staging) :
    WriteStands b w content t :=
  ⟨hstaging ▸ h.write, hstore ▸ h.content⟩

theorem WriteStands.withEngine (h : WriteStands b w content s) (e : Engine) : WriteStands b w content { s with engine := e } :=
  h.of_same rfl rfl

theorem WriteStands.respond (h : WriteStands b w content s) (p : Port) (code : Code) (body : List Byte) :
    WriteStands b w content (s.respond p code body) :=
  h.of_same (respond_store ..) (respond_staging ..)

theorem WriteStands.pageBusy (h : WriteStands b w content s) : s.pageBusy = some b.page := by
  obtain ⟨b', hstaging, hpage, -⟩ := h.write
  simp [State.pageBusy, hstaging, hpage]

theorem WriteStands.not_empty (h : WriteStands b w content s) : s.staging ≠ .empty := by
  obtain ⟨b', hstaging, -⟩ := h.write
  simp [hstaging]

theorem WriteStands.not_opened (h : WriteStands b w content s) (b' : Buffer) (mark : Nat) : s.staging ≠ .opened b' mark := by
  obtain ⟨b'', hstaging, -⟩ := h.write
  simp [hstaging]

/-- A record of another page may change its usage part (R14). -/
theorem WriteStands.setFound (h : WriteStands b w content s) {serial : Nat} {r : PassRecord} {f : PassRecord → PassRecord}
    (hrec : s.record serial = some r) (hbusy : s.meetsBusy (pageOfSerial serial) = false) (hf : ∀ q, (f q).ent = q.ent) :
    WriteStands b w content (s.setRecord serial f) := by
  have hpage : homePage serial ≠ b.page := by
    rw [← Bool.not_eq_true, meetsBusy_iff, pageOfSerial, if_neg (record_mem hrec).1, h.pageBusy] at hbusy
    simpa using hbusy
  refine ⟨h.write, (pageContent_map (fun q => ?_) fun q _ hq => ?_).trans h.content⟩
  · split_ifs
    · rw [hf]
    · rfl
  · rw [if_neg fun hserial : q.ent.serial = serial => hpage (hserial ▸ hq)]

theorem WriteStands.serveTask (h : WriteStands b w content s) {task : Task}
    (hbusy : s.meetsBusy (pageOfSerial task.pass.serial) = false) : WriteStands b w content (serveTask s task) := by
  unfold Machine.serveTask
  split
  · unfold serveConfirm
    split
    · rename_i r d hrec _
      split
      · exact (h.setFound (f := fun q => q.withUsage { q.usage with used := confirmDay q.usage.used d }) hrec hbusy
          fun _ => rfl).of_same rfl rfl
      · exact h
      · exact h
    · exact h
  · unfold serveVoid
    split
    · exact h
    · rename_i r hrec
      exact h.setFound hrec hbusy fun _ => rfl

/-- BLOCK and UNBLOCK reach the busy page, and write flags only (R17, R18). -/
theorem WriteStands.flag (h : WriteStands b w content s) (serial : Nat) (flag : Bool) :
    WriteStands b w content (serveFlag s serial flag).state := by
  have hstore : pageContent (liveFlagged s serial flag) b.page = content := by
    unfold liveFlagged
    split
    · refine (pageContent_map (fun r => ?_) fun r _ _ => ?_).trans h.content <;> split_ifs <;> rfl
    · exact h.content
  unfold serveFlag
  dsimp only
  split
  · refine ⟨?_, hstore⟩
    obtain ⟨b', hstaging, hb'⟩ := h.write
    dsimp only
    split_ifs
    · exact ⟨{ b' with entries := blockStaged serial flag b'.entries }, by rw [hstaging]; rfl, hb'⟩
    · exact ⟨b', hstaging, hb'⟩
  · exact h

theorem Effect.writeStands (he : Effect .engineTakeWork s₀ s t) (h : WriteStands b w content s) : WriteStands b w content t := by
  cases he
  case admitHeld k serial r consumed hstate hroom hrec hv hbusy htasks =>
    exact (h.setFound (f := fun q => q.withUsage (r.usage.admitHeld (s.admitCtx k))) hrec hbusy fun _ => rfl).of_same rfl rfl
  case admitSettled k serial r consumed hrec hv hbusy => exact h.setFound hrec hbusy fun _ => rfl
  case flag serial flag => exact h.flag serial flag
  case opened hs _ _ => exact absurd hs h.not_empty
  case put hs _ _ _ => exact absurd hs (h.not_opened _ _)
  case drop hs => exact absurd hs (h.not_opened _ _)
  case touched hs => exact absurd hs (h.not_opened _ _)
  case abandoned hs => exact absurd hs (h.not_opened _ _)
  case refunded p serial r j hrec hdays hjournal hbusy =>
    obtain ⟨-, -, hserial⟩ := record_mem hrec
    have hset := h.setFound (f := PassRecord.refund j (figuresFor (s.tariffOf r.ent.classNo) r j).amount) (hserial.symm ▸ hrec)
      (hserial.symm ▸ hbusy) fun _ => rfl
    exact hset.of_same rfl rfl
  case reference hc _ => simp at hc
  case configured => rw [storeProfile_frame]; exact h.of_same rfl rfl
  case boundary => rw [closeAtBoundary, closeInterval_frame]; exact h.of_same rfl rfl
  case settled => exact h.of_same (settleDay_store s) (settleDay_staging s)
  case ready hc _ => cases hc
  case taskServed task _ hbusy => exact (h.withEngine _).serveTask hbusy
  case deferredTaskServed hfree => simp [h.pageBusy] at hfree
  all_goals exact h.of_same rfl rfl

theorem Effects.writeStands (he : Effects .engineTakeWork s₀ s t) (h : WriteStands b w content s) : WriteStands b w content t :=
  he.keeps (fun _ _ hu heff => heff.writeStands hu) h

/-- A request chosen while the page is being written is served without beginning a write. -/
theorem WriteStands.serveRequest (h : WriteStands b w content s) {k : Kind} {body : List Byte} {op : EngineOp} (p : Port)
    (hop : engineOp k body = some op) (hs : Serviceable s₀ s op) : WriteStands b w content (serveRequest s p op) := by
  unfold Machine.serveRequest
  obtain ⟨a, ha, heff⟩ | ⟨i, b', mark, -, -, hstaging, -⟩ := serveOp_cases (c := .engineTakeWork) p hop hs
  · rw [ha]
    exact (heff.writeStands h).respond p a.code a.body
  · exact absurd hstaging (h.not_opened b' mark)

theorem WriteStands.takePending (h : WriteStands b w content s) (hnext : s.engine.nextTask = none) :
    WriteStands b w content (takePending s) := by
  have hbusy : s.pageBusy ≠ none := by simp [h.pageBusy]
  cases hchoose : s.engine.choose s.profile.policy with
  | none => exact (takePending_of_choose_none hchoose).symm ▸ h
  | some r =>
    rw [takePending_of_choose hchoose]
    rcases takeRequest_cases s r with ⟨-, heq⟩ | ⟨op, hop, ⟨-, -, heq⟩ | ⟨-, -, heq⟩ | ⟨hfree, heq⟩⟩ <;> rw [heq]
    · exact (h.withEngine _).respond ..
    · exact h.withEngine _
    · exact h.withEngine _
    · exact (h.withEngine _).serveRequest r.port hop
        (serviceable_of_choose hop hchoose hnext (.inl hbusy) rfl rfl id rfl hfree)

theorem WriteStands.takeWork (h : WriteStands b w content s) : WriteStands b w content (takeWork s) := by
  rcases takeWork_cases s with ⟨task, hnext, heq⟩ | ⟨_, _, _, hfree, _⟩ | ⟨hnext, -, heq⟩
  · rw [heq]
    exact (takeTask_effects (s₀ := s) hnext).writeStands h
  · simp [h.pageBusy] at hfree
  · rw [heq]
    exact h.takePending hnext

/-- Settles O19: every branch of a taking keeps the write and the content of its page. -/
theorem busyPageStandsStill : Obligations.BusyPageStandsStill := by
  intro s t b w hstaging hexec
  have hstart : WriteStands b w (pageContent s.store b.page) s := ⟨⟨b, hstaging, rfl, rfl⟩, rfl⟩
  have hsettled : WriteStands b w (pageContent s.store b.page) (settleDay s) :=
    hstart.of_same (settleDay_store s) (settleDay_staging s)
  change Host.Outcome.next (takeWork (settleDay s)) = _ at hexec
  obtain rfl := Host.Outcome.next.inj hexec
  exact ⟨hsettled.takeWork.write, hsettled.takeWork.content⟩

end Sys2Proof.Machine
end

section
/-! PROOF. The body of each engine request: the fields that it spells, the ranges of the operands, and its length (sections 1.1,
6.1, 7.2 and 9.8). -/

namespace Sys2Proof.Machine

/-! ## The fields of a body -/

/-- A field after the first part of a body is a field of the rest. -/
theorem fieldAt_append_of_le {as : List Byte} (bs : List Byte) {off : Nat} (n : Nat) (h : as.length ≤ off) :
    fieldAt off n (as ++ bs) = fieldAt (off - as.length) n bs := by
  rw [fieldAt, fieldAt, List.drop_append, List.drop_eq_nil_of_le h, List.nil_append]

/-- The first field is read back. -/
theorem fieldAt_zero_append (n v : Nat) (bs : List Byte) : fieldAt 0 n (beBytes n v ++ bs) = v % 256 ^ n := by
  rw [fieldAt, List.drop_zero, List.take_left' (beBytes_length n v), ofBytes_beBytes]

theorem fieldAt_zero_beBytes (n v : Nat) : fieldAt 0 n (beBytes n v) = v % 256 ^ n := by
  simpa using fieldAt_zero_append n v []

/-- A field of one width among fields of that width. -/
theorem fieldAt_flatMap (n : Nat) {vs : List Nat} (bs : List Byte) {i : Nat} (h : i < vs.length) :
    fieldAt (n * i) n (vs.flatMap (beBytes n) ++ bs) = vs[i] % 256 ^ n := by
  induction vs generalizing i with
  | nil => simp at h
  | cons v rest ih =>
    rw [List.flatMap_cons, List.append_assoc]
    cases i with
    | zero => exact fieldAt_zero_append n v _
    | succ i =>
      have hlength : (beBytes n v).length ≤ n * (i + 1) := by simpa using Nat.le_mul_of_pos_right n i.succ_pos
      rw [fieldAt_append_of_le _ _ hlength, beBytes_length, Nat.mul_succ, Nat.add_sub_cancel, ih (Nat.lt_of_succ_lt_succ h),
        List.getElem_cons_succ]

theorem beBytes_one (v : Nat) : beBytes 1 v = [BitVec.ofNat 8 v] := by simp [beBytes]

/-! ## Requests of one number -/

theorem oneSerial_beBytes {serial : Nat} (h : serial < 2 ^ 32) : oneSerial (beBytes 4 serial) = some serial :=
  oneNumber_beBytes 4 serial h

theorem oneSequence_beBytes_ofNat {n : Nat} (h : n < 2 ^ 32) : oneSequence (beBytes 4 n) = some (BitVec.ofNat 32 n) := by
  rw [oneSequence, oneNumber_beBytes 4 n h]
  rfl

theorem engineOp_pageOpen {page : Nat} (h : page < 65536) :
    engineOp .pageOpen (beBytes 2 page) = if page ≤ 2047 then some (.pageOpen page) else none := by
  rw [engineOp, oneNumber_beBytes 2 page h]
  simp only [Config.pageCount, Nat.lt_succ_iff]

theorem engineOp_stagingRead {n : Nat} (h : n < 256) :
    engineOp .stagingRead (beBytes 1 n) = if n ≤ 31 then some (.stagingRead n) else none := by
  rw [engineOp, oneNumber_beBytes 1 n h]

/-! ## The refund requests -/

theorem engineOp_refundQuote {serial asked : Nat} (hserial : serial < 2 ^ 32) (hasked : asked < 256) :
    engineOp .refundQuote (beBytes 4 serial ++ beBytes 1 asked) = if asked ≤ 14 then some (.refundQuote serial asked) else none := by
  have hfirst : fieldAt 0 4 (beBytes 4 serial ++ beBytes 1 asked) = serial :=
    (fieldAt_zero_append ..).trans (Nat.mod_eq_of_lt hserial)
  have hsecond : fieldAt 4 1 (beBytes 4 serial ++ beBytes 1 asked) = asked := by
    rw [fieldAt_append_of_le _ _ (by simp), beBytes_length, Nat.sub_self, fieldAt_zero_beBytes]
    exact Nat.mod_eq_of_lt hasked
  simp only [engineOp, hfirst, hsecond, List.length_append, beBytes_length, true_and]

theorem engineOp_refundCommit {serial days expected : Nat} (hserial : serial < 2 ^ 32) (hdays : days < 256)
    (hexpected : expected < 2 ^ 24) :
    engineOp .refundCommit (beBytes 4 serial ++ beBytes 1 days ++ beBytes 3 expected) =
      if 1 ≤ days ∧ days ≤ 14 then some (.refundCommit serial days expected) else none := by
  rw [List.append_assoc]
  have hfirst : fieldAt 0 4 (beBytes 4 serial ++ (beBytes 1 days ++ beBytes 3 expected)) = serial :=
    (fieldAt_zero_append ..).trans (Nat.mod_eq_of_lt hserial)
  have hsecond : fieldAt 4 1 (beBytes 4 serial ++ (beBytes 1 days ++ beBytes 3 expected)) = days := by
    rw [fieldAt_append_of_le _ _ (by simp), beBytes_length, Nat.sub_self, fieldAt_zero_append]
    exact Nat.mod_eq_of_lt hdays
  have hthird : fieldAt 5 3 (beBytes 4 serial ++ (beBytes 1 days ++ beBytes 3 expected)) = expected := by
    rw [fieldAt_append_of_le _ _ (by simp), beBytes_length, fieldAt_append_of_le _ _ (by simp), beBytes_length]
    exact (fieldAt_zero_beBytes ..).trans (Nat.mod_eq_of_lt hexpected)
  simp only [engineOp, hfirst, hsecond, hthird, List.length_append, beBytes_length, true_and]

/-! ## The tariff requests -/

theorem classOfByte_ofNat (c : Fin 64) : classOfByte (BitVec.ofNat 8 c.val) = some c := by
  have hc : c.val % 2 ^ 8 = c.val := Nat.mod_eq_of_lt (c.isLt.trans (by decide))
  have hlt : c.val < 64 := c.isLt
  simp only [classOfByte, BitVec.toNat_ofNat, hc, hlt, dif_pos, Fin.eta]

theorem classOfByte_eq_none {c : Nat} (hlow : 64 ≤ c) (hhigh : c < 256) : classOfByte (BitVec.ofNat 8 c) = none := by
  refine dif_neg ?_
  rw [BitVec.toNat_ofNat]
  omega

theorem boolOfByte_eq_none {b : Byte} (h : 2 ≤ b.toNat) : boolOfByte b = none := by
  have hzero : b ≠ 0 := by
    rintro rfl
    simp at h
  have hone : b ≠ 1 := by
    rintro rfl
    simp at h
  rw [boolOfByte, if_neg hzero, if_neg hone]

/-- A present or lapsed byte above 01h spells no class (log entry 17). -/
theorem tariffClassBody_eq_none {fields : List Byte} (h : 2 ≤ (fields.getD 0 0).toNat ∨ 2 ≤ (fields.getD 51 0).toNat) :
    tariffClassBody fields = none := by
  unfold tariffClassBody
  split_ifs
  · obtain h | h := h
    · rw [boolOfByte_eq_none h]
    · rw [boolOfByte_eq_none h]
      cases boolOfByte (fields.getD 0 0) <;> rfl
  · rfl

theorem engineOp_tariffPut_of_no_class {b : Byte} (h : classOfByte b = none) (fields : List Byte) :
    engineOp .tariffPut (b :: fields) = none := by
  simp only [engineOp, h]

theorem engineOp_tariffPut_of_no_fields (b : Byte) {fields : List Byte} (h : tariffClassBody fields = none) :
    engineOp .tariffPut (b :: fields) = none := by
  simp only [engineOp, h]
  cases classOfByte b <;> rfl

/-- The fields of a tariff class in their bytes are read back (R100, R101, R166). -/
theorem tariffClassBody_tariffBytes {cls : TariffClass} (hprices : ∀ i : Fin 14, cls.prices[i.val] < 2 ^ 24)
    (hmin : cls.feeMin < 65536) (hpermille : cls.feePermille < 65536) (hstep : cls.step < 65536) (hcap : cls.capPermille < 65536) :
    tariffClassBody (tariffBytes cls) = some cls := by
  have hpresent : boolOfByte ((tariffBytes cls).getD 0 0) = some cls.present := by
    unfold tariffBytes boolByte
    cases cls.present <;> rfl
  have hflat : (cls.prices.toList.flatMap (beBytes 3)).length = 42 := by simp [List.length_flatMap]
  have hlapsed : boolOfByte ((tariffBytes cls).getD 51 0) = some cls.lapsed := by
    unfold tariffBytes
    rw [List.getD_append_right _ _ _ _ (by simp [hflat, boolByte])]
    cases cls.lapsed <;> simp [hflat, boolByte, boolOfByte]
  have hprice (i : Fin 14) : fieldAt (1 + 3 * i.val) 3 (tariffBytes cls) = cls.prices[i.val] := by
    have hi : i.val < cls.prices.toList.length := by simp
    simp only [tariffBytes, List.append_assoc]
    rw [fieldAt_append_of_le _ _ (by simp [boolByte])]
    simp only [boolByte, List.length_singleton, Nat.add_sub_cancel_left]
    rw [fieldAt_flatMap 3 _ hi, Vector.getElem_toList]
    exact Nat.mod_eq_of_lt (hprices i)
  have hskip (off n : Nat) (h : 43 ≤ off) : fieldAt off n (tariffBytes cls) = fieldAt (off - 43) n
      (beBytes 2 cls.feeMin ++ (beBytes 2 cls.feePermille ++ (beBytes 2 cls.step ++ (beBytes 2 cls.capPermille ++ boolByte cls.lapsed)))) := by
    have hlength : (boolByte cls.present ++ cls.prices.toList.flatMap (beBytes 3)).length = 43 := by simp [hflat, boolByte]
    simp only [tariffBytes, List.append_assoc]
    rw [← List.append_assoc, fieldAt_append_of_le _ _ (hlength.trans_le h), hlength]
  have hlength : (tariffBytes cls).length = 52 := by simp [tariffBytes, hflat, boolByte]
  rw [tariffClassBody, if_pos hlength, hpresent, hlapsed]
  cases cls
  simp only [Option.some.injEq, TariffClass.mk.injEq, true_and, and_true]
  refine ⟨Vector.ext fun i hi => ?_, ?_, ?_, ?_, ?_⟩
  · rw [Vector.getElem_ofFn]
    exact hprice ⟨i, hi⟩
  all_goals simp [fieldAt_append_of_le, fieldAt_zero_append, Nat.mod_eq_of_lt, *]

theorem engineOp_tariffPut (c : Fin 64) {cls : TariffClass} (h : tariffClassBody (tariffBytes cls) = some cls) :
    engineOp .tariffPut (beBytes 1 c.val ++ tariffBytes cls) = some (.tariffPut c cls) := by
  simp only [beBytes_one, List.singleton_append, engineOp, classOfByte_ofNat, h]

/-! ## RECORD PUT -/

/-- The flags of an entitlement part are the bits of their byte (R166). -/
theorem entitlementFlags (blocked zones hours : Bool) :
    (BitVec.ofNat 8 (blocked.toNat + 2 * zones.toNat + 4 * hours.toNat)).getLsbD 0 = blocked ∧
      (BitVec.ofNat 8 (blocked.toNat + 2 * zones.toNat + 4 * hours.toNat)).getLsbD 1 = zones ∧
      (BitVec.ofNat 8 (blocked.toNat + 2 * zones.toNat + 4 * hours.toNat)).getLsbD 2 = hours := by
  decide +revert

theorem entitlementFlags_lt (blocked zones hours : Bool) : blocked.toNat + 2 * zones.toNat + 4 * hours.toNat < 256 := by
  decide +revert

/-- The entitlement part in its bytes is read back (R166). -/
theorem entitlementBody_entitlementBytes {e : Entitlement} (hserial : e.serial < 2 ^ 32) (hclass : e.classNo < 256)
    (hfirst : e.firstDay < 65536) (hwindow : e.window < 256) (hride : e.rideDays < 256) (hpaid : e.paid < 2 ^ 24)
    (hhours : ∀ h, e.hours = some h → h.fromMinute < 65536 ∧ h.toMinute < 65536) :
    entitlementBody (entitlementBytes e) = some e := by
  have hlength : (entitlementBytes e).length = 19 := by
    unfold entitlementBytes
    cases e.zones <;> cases e.hours <;> simp [zeros]
  obtain ⟨serial, classNo, firstDay, window, rideDays, paid, blocked, zones, hours⟩ := e
  obtain ⟨hblocked, hzones, hpresent⟩ := entitlementFlags blocked zones.isSome hours.isSome
  have hflags := entitlementFlags_lt blocked zones.isSome hours.isSome
  rw [entitlementBody, if_pos hlength]
  have hzone (z : Word16) : BitVec.ofNat 16 (z.toNat % 65536) = z := by simp [Nat.mod_eq_of_lt z.isLt]
  have hskipped : zeros 2 = beBytes 2 0 := rfl
  cases zones <;> cases hours <;>
    simp_all [entitlementBytes, fieldAt_append_of_le, fieldAt_zero_append, fieldAt_zero_beBytes, Nat.mod_eq_of_lt]

theorem entitlementOk_iff {e : Entitlement} (hserial : e.serial < 2 ^ 32) (hpaid : e.paid < 2 ^ 24) :
    entitlementOk e = true ↔
      1 ≤ e.serial ∧ e.classNo ≤ 63 ∧ e.firstDay ≤ 1023 ∧ 1 ≤ e.window ∧ e.window ≤ 28 ∧ 1 ≤ e.rideDays ∧ e.rideDays ≤ 14 ∧
        e.rideDays ≤ e.window ∧ ∀ h ∈ e.hours, h.fromMinute < h.toMinute ∧ h.toMinute ≤ 1440 := by
  have hpaid' : e.paid ≤ 16777215 := Nat.le_of_lt_succ hpaid
  have hhours : hoursOk e.hours = true ↔ ∀ h ∈ e.hours, h.fromMinute < h.toMinute ∧ h.toMinute ≤ 1440 := by
    cases e.hours <;> simp [hoursOk]
  simp only [entitlementOk, Bool.and_eq_true, decide_eq_true_eq, hserial, hpaid', hhours, and_true, and_assoc]

/-! ## The length of a body -/

theorem length_of_oneNumber {n v : Nat} {body : List Byte} (h : oneNumber n body = some v) : body.length = n := by
  by_contra hne
  rw [oneNumber_eq_none hne] at h
  cases h

/-- The length that a body needs to spell operands, by kind (R166). -/
theorem length_of_engineOp {k : Kind} {body : List Byte} {op : EngineOp} (h : engineOp k body = some op) :
    (k, body.length) ∈
      [(Kind.admitPass, 4), (.passRead, 4), (.block, 4), (.unblock, 4), (.pageOpen, 2), (.recordPut, 19), (.recordDrop, 4),
       (.stagingRead, 1), (.pageCommit, 0), (.pageAbandon, 0), (.tariffPut, 53), (.tariffRead, 1), (.tariffLock, 0),
       (.refundQuote, 5), (.refundCommit, 8), (.journalRead, 4), (.journalRelease, 4)] := by
  cases k
  case admitPass | passRead | block | unblock | recordDrop =>
    obtain ⟨_, hserial, -⟩ := Option.map_eq_some_iff.mp h
    simp [length_of_oneNumber hserial]
  case journalRead | journalRelease =>
    obtain ⟨_, hseq, -⟩ := Option.map_eq_some_iff.mp h
    obtain ⟨_, hnumber, -⟩ := Option.map_eq_some_iff.mp hseq
    simp [length_of_oneNumber hnumber]
  case pageOpen | stagingRead =>
    simp only [engineOp] at h
    split at h
    · rename_i hnumber
      simp [length_of_oneNumber hnumber]
    · cases h
  case pageCommit | pageAbandon | tariffLock =>
    simp only [engineOp] at h
    split_ifs at h with hbody
    simp [hbody]
  case recordPut =>
    simp only [engineOp] at h
    split at h
    · rename_i hentitlement
      unfold entitlementBody at hentitlement
      split_ifs at hentitlement with hlength
      simp [hlength]
    · cases h
  case tariffPut =>
    simp only [engineOp] at h
    split at h
    · cases h
    · split at h
      · rename_i hfields
        unfold tariffClassBody at hfields
        split_ifs at hfields with hlength
        simp [hlength]
      · cases h
  case tariffRead =>
    simp only [engineOp] at h
    split at h
    · simp
    · cases h
  case refundQuote | refundCommit =>
    simp only [engineOp] at h
    split_ifs at h with hbody
    simp [hbody.1]
  all_goals cases h

/-- Settles O16: the fields of each body, the ranges of their operands, and the lengths. -/
theorem engineBodiesSpellTheirOperands : Obligations.EngineBodiesSpellTheirOperands := by
  refine ⟨fun serial hserial => ?_, fun page hpage => engineOp_pageOpen hpage, fun n hn => engineOp_stagingRead hn,
    fun c => ?_, fun c hlow hhigh => ?_, rfl, rfl, rfl,
    fun e hserial hclass hfirst hwindow hride hpaid hhours => ?_,
    fun c cls hprices hmin hpermille hstep hcap =>
      engineOp_tariffPut c (tariffClassBody_tariffBytes hprices hmin hpermille hstep hcap),
    fun c fields hbyte => engineOp_tariffPut_of_no_fields c (tariffClassBody_eq_none hbyte),
    fun k body op hop => length_of_engineOp hop⟩
  · have hone := oneSerial_beBytes hserial
    have hseq := oneSequence_beBytes_ofNat hserial
    refine ⟨?_, ?_, ?_, ?_, ?_, ?_, ?_, fun asked => engineOp_refundQuote hserial,
      fun days expected => engineOp_refundCommit hserial⟩
    all_goals simp only [engineOp, hone, hseq, Option.map_some]
  · rw [beBytes_one]
    simp only [engineOp, classOfByte_ofNat, Option.map_some]
  · have hnone := classOfByte_eq_none hlow hhigh
    rw [beBytes_one]
    exact ⟨by simp only [engineOp, hnone, Option.map_none], fun fields => engineOp_tariffPut_of_no_class hnone fields⟩
  · rw [engineOp, entitlementBody_entitlementBytes hserial hclass hfirst hwindow hride hpaid hhours]
    simp only [entitlementOk_iff hserial hpaid]

end Sys2Proof.Machine
end

section
/-! PROOF. What PASS READ, TARIFF READ, JOURNAL READ and STAGING READ answer, and the copies that BLOCK and UNBLOCK write (sections
1.8, 1.9, 6.1, 6.5 and 7.2). -/

namespace Sys2Proof.Machine

variable {s : State}

/-! ## Reads -/

theorem servePassRead_some {serial : Nat} {r : PassRecord} (h : s.record serial = some r) :
    servePassRead s serial = { state := s, code := .ok, body := recordBytes r } := by
  unfold servePassRead
  rw [h]

theorem servePassRead_none {serial : Nat} (h : s.record serial = none) :
    servePassRead s serial = { state := s, code := .unknownPass, body := noRecordBytes serial } := by
  unfold servePassRead
  rw [h]

theorem serveStagingRead_empty (h : s.staging = .empty) (i : StationId) (position : Nat) :
    serveStagingRead s i position = { state := s, code := .ok, body := zeros 7 } := by
  unfold serveStagingRead
  rw [h]

theorem serveStagingRead_opened {b : Buffer} {mark : Nat} (h : s.staging = .opened b mark) (i : StationId) (position : Nat) :
    serveStagingRead s i position =
      { state := { s with staging := .opened b (if b.owner = i then s.elapsed else mark) }
        code := .ok
        body := stagingBytes s.store 1 b (secondsLeft (if b.owner = i then s.elapsed else mark) s.elapsed) position } := by
  unfold serveStagingRead
  rw [h]

theorem serveStagingRead_committing {b : Buffer} {w : PageWrite} (h : s.staging = .committing b w) (i : StationId) (position : Nat) :
    serveStagingRead s i position = { state := s, code := .ok, body := stagingBytes s.store 2 b 0 position } := by
  unfold serveStagingRead
  rw [h]

theorem serveStagingRead_code (s : State) (i : StationId) (position : Nat) : (serveStagingRead s i position).code = .ok := by
  unfold serveStagingRead
  split <;> rfl

/-- A timer that starts at this instant has its 120 seconds left (log entry 23). -/
theorem secondsLeft_if (own : Prop) [Decidable own] (mark elapsed : Nat) :
    secondsLeft (if own then elapsed else mark) elapsed = (if own then 120000 else mark + 120000 - elapsed) / 1000 := by
  split_ifs
  · rw [secondsLeft, Nat.add_sub_cancel_left]
    rfl
  · rfl

/-- Settles O26: the answer of each read. -/
theorem engineReadsChangeNothing : Obligations.EngineReadsChangeNothing := by
  refine fun s i => ⟨fun serial r hrec => congrArg _ (servePassRead_some hrec), fun serial hnone => congrArg _ (servePassRead_none hnone),
    fun c => rfl, fun n => ?_, fun position => ?_⟩
  · obtain ⟨skipped, rest, hsplit, hskipped, hfirst, hfull⟩ := readSplit (fun j : JournalRecord => atOrAfter j.seq n) 4 s.refund.journal
    refine ⟨skipped, s.refund.readFrom n, rest, hsplit, fun j hj => ?_, fun j hj => ?_, List.length_take_le .., hfull, ?_⟩
    · simpa [atOrAfter] using hskipped j hj
    · simpa [atOrAfter] using hfirst j hj
    · rw [← s.refund.oldestSeq_eq]
      rfl
  · refine ⟨(serveStagingRead s i position).state, (serveStagingRead s i position).body,
      congrArg CommitResult.answered (by rw [← serveStagingRead_code s i position]), fun h => ?_, fun b mark h => ?_, fun b w h => ?_⟩
    · rw [serveStagingRead_empty h]
      exact ⟨rfl, rfl⟩
    · rw [serveStagingRead_opened h]
      refine ⟨rfl, ?_⟩
      rw [← secondsLeft_if]
      rfl
    · rw [serveStagingRead_committing h]
      exact ⟨rfl, rfl⟩

/-! ## BLOCK and UNBLOCK -/

/-- The serial has a live record. -/
def State.holdsLive (s : State) (serial : Nat) : Prop := ∃ r ∈ s.store, r.ent.serial = serial

/-- The serial has a staged entry in the buffer of its page. -/
def State.holdsStaged (s : State) (serial : Nat) : Prop :=
  ∃ b, s.staging.buffer = some b ∧ b.page = serial % 2048 ∧ ∃ e ∈ b.entries, e.ent.serial = serial

theorem record_isSome_iff_holdsLive {serial : Nat} (hne : serial ≠ 0) : (s.record serial).isSome = true ↔ s.holdsLive serial := by
  simp [State.record, findRecord, hne, State.holdsLive]

theorem isStaged_iff {serial : Nat} : isStaged s.staging serial = true ↔ s.holdsStaged serial := by
  unfold isStaged State.holdsStaged
  cases s.staging.buffer with
  | none => simp
  | some b => simp [homePage, Config.pageCount]

theorem serveFlag_unknown {serial : Nat} (flag : Bool) (h : serial = 0 ∨ (¬ s.holdsLive serial ∧ ¬ s.holdsStaged serial)) :
    serveFlag s serial flag = { state := s, code := .unknownPass, body := beBytes 4 serial ++ zeros 2 } := by
  have hnone : ((s.record serial).isSome || serial != 0 && isStaged s.staging serial) = false := by
    by_cases hzero : serial = 0
    · simp [hzero, State.record, findRecord]
    · obtain ⟨hlive, hstaged⟩ := h.resolve_left hzero
      rw [← record_isSome_iff_holdsLive hzero, Bool.not_eq_true] at hlive
      rw [← isStaged_iff, Bool.not_eq_true] at hstaged
      rw [hlive, hstaged, Bool.and_false, Bool.or_false]
  unfold serveFlag
  simp only [hnone, Bool.false_eq_true, if_false]

/-- The store with the flag written: the other records stand, and without a live record all do (R17). -/
theorem liveFlagged_eq {serial : Nat} (hne : serial ≠ 0) (flag : Bool) :
    liveFlagged s serial flag =
      s.store.map (fun r => if r.ent.serial = serial then { r with ent := { r.ent with blocked := flag } } else r) := by
  unfold liveFlagged
  split_ifs with hlive
  · rfl
  · rw [record_isSome_iff_holdsLive hne] at hlive
    refine ((List.map_congr_left fun r hr => ?_).trans (List.map_id _)).symm
    exact if_neg fun hserial => hlive ⟨r, hr, hserial⟩

theorem serveFlag_known {serial : Nat} (flag : Bool) (hne : serial ≠ 0) (h : s.holdsLive serial ∨ s.holdsStaged serial) :
    serveFlag s serial flag =
      { state :=
          { s with
            store := liveFlagged s serial flag
            staging := if isStaged s.staging serial then s.staging.mapEntries (blockStaged serial flag) else s.staging }
        code := .ok
        body := beBytes 4 serial ++ boolByte flag ++ [BitVec.ofNat 8 (copiesCode (s.record serial).isSome (isStaged s.staging serial))] } := by
  have hbne : (serial != 0) = true := by simpa using hne
  have hsome : ((s.record serial).isSome || isStaged s.staging serial) = true := by
    rwa [Bool.or_eq_true, record_isSome_iff_holdsLive hne, isStaged_iff]
  unfold serveFlag
  simp only [hbne, Bool.true_and, hsome, if_true, beBytes_one]
  rfl

theorem copiesCode_iff (live staged : Bool) :
    ((BitVec.ofNat 8 (copiesCode live staged) : Byte) = 1 ↔ ¬ live = true ∧ staged = true) ∧
      ((BitVec.ofNat 8 (copiesCode live staged) : Byte) = 2 ↔ live = true ∧ staged = true) ∧
      (live = true ∨ staged = true → ((BitVec.ofNat 8 (copiesCode live staged) : Byte) = 0 ↔ live = true ∧ ¬ staged = true)) := by
  decide +revert

/-- Settles O27: the copies found, and the flag written in each. -/
theorem blockWritesEveryCopy : Obligations.BlockWritesEveryCopy := by
  intro s i serial flag op live staged
  have hop : serveOp s (.station i) op = .answered (serveFlag s serial flag) := by
    cases flag <;> rfl
  rw [hop]
  refine ⟨fun h => congrArg _ (serveFlag_unknown flag h), fun hne h => ?_⟩
  obtain ⟨hone, htwo, hzero⟩ := copiesCode_iff (s.record serial).isSome (isStaged s.staging serial)
  rw [record_isSome_iff_holdsLive hne, isStaged_iff] at hone htwo hzero
  refine ⟨_, _, congrArg _ (serveFlag_known flag hne h), hzero h, hone, htwo, liveFlagged_eq hne flag, fun hstaged => ?_,
    fun hstaged => ?_, rfl⟩
  · exact if_pos (isStaged_iff.mpr hstaged)
  · exact if_neg fun hin => hstaged (isStaged_iff.mp hin)

end Sys2Proof.Machine
end

section
/-! PROOF. The staging buffer: opening, abandoning, editing and the idle timer (sections 7.1, 7.2 and 7.4). -/

namespace Sys2Proof.Machine

variable {s : State} {b : Buffer} {w : PageWrite} {mark : Nat} {i : StationId}

/-! ## The checks of the buffer -/

theorem openBuffer_owner (b : Buffer) (mark : Nat) : openBuffer (.opened b mark) b.owner = .inr b := if_pos rfl

theorem openBuffer_other (h : b.owner ≠ i) : openBuffer (.opened b mark) i = .inl .stagingHeld := if_neg h

theorem servePageOpen_empty (h : s.staging = .empty) (i : StationId) (page : Nat) :
    servePageOpen s i page =
      { state := { s with staging := .opened { page := page, owner := i, entries := (pageRecords s.store page).map copyStaged } s.elapsed }
        code := .ok
        body := beBytes 2 page ++ beBytes 1 (pageRecords s.store page).length } := by
  unfold servePageOpen
  simp only [h, List.length_map]

theorem servePageOpen_held (h : s.staging ≠ .empty) (i : StationId) (page : Nat) :
    servePageOpen s i page = { state := s, code := .stagingHeld, body := zeros 3 } := by
  unfold servePageOpen
  cases hstaging : s.staging with
  | empty => exact absurd hstaging h
  | opened b mark => rfl
  | committing b w => rfl

theorem servePageAbandon_refused {code : Code} (h : openBuffer s.staging i = .inl code) :
    servePageAbandon s i = { state := s, code := code, body := zeros 2 } := by
  unfold servePageAbandon
  rw [h]

theorem servePageAbandon_owner (h : s.staging = .opened b mark) :
    servePageAbandon s b.owner =
      { state := { s with staging := .empty }.post (.staging b.page .abandoned), code := .ok, body := beBytes 2 b.page } := by
  unfold servePageAbandon
  rw [h, openBuffer_owner]

/-! ## The idle timer -/

theorem exec_idleTimerEnd_opened (h : s.staging = .opened b mark) :
    exec .idleTimerEnd s =
      .next
        (if mark + 120000 ≤ s.elapsed then { s with staging := .empty }.post (.staging b.page .abandoned) else s) := by
  change execIdleTimerEnd s = _
  unfold execIdleTimerEnd
  rw [h]
  rfl

theorem exec_idleTimerEnd_not_opened (h : ∀ b mark, s.staging ≠ .opened b mark) : exec .idleTimerEnd s = .next s := by
  change execIdleTimerEnd s = _
  unfold execIdleTimerEnd
  cases hstaging : s.staging with
  | empty => rfl
  | opened b mark => exact absurd hstaging (h b mark)
  | committing b w => rfl

/-- Settles O29: PAGE OPEN, PAGE ABANDON and the timer's end, by the state of the buffer and its owner. -/
theorem bufferOpensAndEmpties : Obligations.BufferOpensAndEmpties := by
  refine fun s i => ⟨fun page h => congrArg _ (servePageOpen_empty h i page), fun page h => congrArg _ (servePageOpen_held h i page),
    fun h => congrArg _ (servePageAbandon_refused (h ▸ rfl)), fun b w h => congrArg _ (servePageAbandon_refused (h ▸ rfl)),
    fun b mark h howner => congrArg _ (servePageAbandon_refused (h ▸ openBuffer_other howner)), fun b mark h howner => ?_,
    fun b mark h hdue => ?_, fun b mark h hdue => ?_, fun h => exec_idleTimerEnd_not_opened h⟩
  · subst howner
    exact congrArg _ (servePageAbandon_owner h)
  · rw [exec_idleTimerEnd_opened h, if_pos hdue]
    rfl
  · rw [exec_idleTimerEnd_opened h, if_neg (Nat.not_le.mpr hdue)]

/-! ## RECORD PUT -/

theorem serveRecordPut_refused {code : Code} (h : openBuffer s.staging i = .inl code) (e : Entitlement) :
    serveRecordPut s i e = { state := s, code := code, body := zeros 9 } := by
  unfold serveRecordPut
  rw [h]

theorem serveRecordPut_wrongPage (h : s.staging = .opened b mark) {e : Entitlement} (hpage : homePage e.serial ≠ b.page) :
    serveRecordPut s b.owner e =
      { state := s.restage b
        code := .wrongPage
        body := beBytes 4 e.serial ++ zeros 2 ++ beBytes 1 b.entries.length ++ beBytes 2 b.page } := by
  unfold serveRecordPut
  rw [h, openBuffer_owner]
  exact if_pos hpage

theorem serveRecordPut_full (h : s.staging = .opened b mark) {e : Entitlement} (hpage : homePage e.serial = b.page)
    (hfull : holdsSerial b.entries e.serial = false ∧ 32 ≤ b.entries.length) :
    serveRecordPut s b.owner e =
      { state := s.restage b
        code := .pageFull
        body := beBytes 4 e.serial ++ zeros 2 ++ beBytes 1 b.entries.length ++ beBytes 2 b.page } := by
  unfold serveRecordPut
  rw [h, openBuffer_owner]
  exact (if_neg (not_not_intro hpage)).trans (if_pos hfull)

theorem serveRecordPut_ok (h : s.staging = .opened b mark) {e : Entitlement} (hpage : homePage e.serial = b.page)
    (hroom : ¬ (holdsSerial b.entries e.serial = false ∧ 32 ≤ b.entries.length)) :
    serveRecordPut s b.owner e =
      { state := s.restage { b with entries := insertStaged { ent := e, mark := putMark s e.serial } b.entries }
        code := .ok
        body :=
          beBytes 4 e.serial ++ beBytes 1 (markCode (putMark s e.serial)) ++
            beBytes 1 (stagedPosition (insertStaged { ent := e, mark := putMark s e.serial } b.entries) e.serial) ++
            beBytes 1 (insertStaged { ent := e, mark := putMark s e.serial } b.entries).length ++ beBytes 2 b.page } := by
  unfold serveRecordPut
  rw [h, openBuffer_owner]
  exact (if_neg (not_not_intro hpage)).trans (if_neg hroom)

theorem putMark_eq (s : State) (serial : Nat) : putMark s serial = if s.record serial = none then .new else .replaced := by
  unfold putMark
  cases s.record serial <;> rfl

theorem markCode_putMark (s : State) (serial : Nat) : markCode (putMark s serial) = if s.record serial = none then 2 else 1 := by
  unfold putMark
  cases s.record serial <;> rfl

/-- An entry's position is the number of the entries before it. -/
theorem stagedPosition_append {before : List Staged} (after : List Staged) (e : Staged)
    (h : ∀ q ∈ before, q.ent.serial ≠ e.ent.serial) : stagedPosition (before ++ e :: after) e.ent.serial = before.length := by
  induction before with
  | nil => simp [stagedPosition, List.findIdx_cons]
  | cons q rest ih =>
    obtain ⟨hq, hrest⟩ := List.forall_mem_cons.mp h
    have hrec := ih hrest
    unfold stagedPosition at hrec ⊢
    have hbeq : (q.ent.serial == e.ent.serial) = false := by simpa using hq
    rw [List.cons_append, List.findIdx_cons, hrec, hbeq]
    rfl

/-! ## RECORD DROP -/

theorem serveRecordDrop_refused {code : Code} (h : openBuffer s.staging i = .inl code) (serial : Nat) :
    serveRecordDrop s i serial = { state := s, code := code, body := zeros 5 } := by
  unfold serveRecordDrop
  rw [h]

theorem serveRecordDrop_owner (h : s.staging = .opened b mark) (serial : Nat) :
    serveRecordDrop s b.owner serial =
      { state := s.restage { b with entries := b.entries.filter (fun e => e.ent.serial != serial) }
        code := if holdsSerial b.entries serial then .ok else .notFound
        body := beBytes 4 serial ++ beBytes 1 (b.entries.filter (fun e => e.ent.serial != serial)).length } := by
  unfold serveRecordDrop
  rw [h, openBuffer_owner]

/-- With one entry of a serial, the others are those before it and those after it. -/
theorem filter_serial_ne {before after : List Staged} {e : Staged} (h : Staged.sorted (before ++ e :: after)) :
    (before ++ e :: after).filter (fun q => q.ent.serial != e.ent.serial) = before ++ after := by
  obtain ⟨-, hafter, hbefore⟩ := List.pairwise_append.mp h
  have hlow : before.filter (fun q => q.ent.serial != e.ent.serial) = before :=
    List.filter_eq_self.mpr fun q hq => by simpa using (hbefore q hq e List.mem_cons_self).ne
  rw [List.filter_append, hlow, List.filter_cons_of_neg (by simp), filter_serial_ne_of_lt (List.pairwise_cons.mp hafter).1]

theorem mem_droppedRecords {store : List PassRecord} {r : PassRecord} :
    r ∈ droppedRecords store b ↔ r ∈ store ∧ homePage r.ent.serial = b.page ∧ ∀ e ∈ b.entries, e.ent.serial ≠ r.ent.serial := by
  simp [droppedRecords, mem_pageRecords, holdsSerial, and_assoc]

/-- Settles O30: the refusals of RECORD PUT and RECORD DROP, and the one entry that each writes or removes. -/
theorem recordPutAndDropEditOneEntry : Obligations.RecordPutAndDropEditOneEntry := by
  refine ⟨fun s b mark e h => ⟨fun hpage => congrArg _ (serveRecordPut_wrongPage h hpage), fun hpage hnone hfull => ?_,
      fun hpage hsorted hroom => ?_⟩, fun s b mark serial h => ⟨fun hnone => ?_, fun before e after hsplit hserial hsorted => ?_⟩,
    fun s i e serial => ?_⟩
  · refine congrArg _ (serveRecordPut_full h hpage ⟨?_, hfull⟩)
    rw [← Bool.not_eq_true, holdsSerial_iff]
    exact fun ⟨q, hq, hserial⟩ => hnone q hq hserial
  · have hroom : ¬ (holdsSerial b.entries e.serial = false ∧ 32 ≤ b.entries.length) := by
      rintro ⟨hnone, hfull⟩
      rw [← holdsSerial_iff, hnone] at hroom
      simp only [Bool.false_eq_true, false_or] at hroom
      omega
    obtain ⟨before, after, hinsert, hlow, hhigh, hothers⟩ := insertStaged_split { ent := e, mark := putMark s e.serial } hsorted
    refine ⟨before, after, hlow, hhigh, hothers, (congrArg _ (serveRecordPut_ok h hpage hroom)).trans ?_⟩
    rw [hinsert, markCode_putMark, stagedPosition_append after { ent := e, mark := putMark s e.serial } fun q hq => (hlow q hq).ne,
      putMark_eq]
    rfl
  · have hfilter : b.entries.filter (fun e => e.ent.serial != serial) = b.entries :=
      List.filter_eq_self.mpr fun e he => by simpa using hnone e he
    have hholds : holdsSerial b.entries serial = false := by
      rw [← Bool.not_eq_true, holdsSerial_iff]
      exact fun ⟨q, hq, hserial⟩ => hnone q hq hserial
    refine (congrArg _ (serveRecordDrop_owner h serial)).trans ?_
    rw [hfilter, hholds]
    rfl
  · subst hserial
    have hholds : holdsSerial b.entries e.ent.serial = true := holdsSerial_iff.mpr ⟨e, by simp [hsplit], rfl⟩
    rw [hsplit] at hsorted
    refine ⟨(congrArg _ (serveRecordDrop_owner h e.ent.serial)).trans ?_, fun r hr hserial hpage => ?_⟩
    · rw [hholds, hsplit, filter_serial_ne hsorted]
      rfl
    · refine mem_droppedRecords.mpr ⟨hr, hpage, fun q hq => ?_⟩
      rw [hserial]
      have hmem : q ∈ (before ++ e :: after).filter (fun q => q.ent.serial != e.ent.serial) := by
        rw [filter_serial_ne hsorted]
        exact hq
      simpa using (List.mem_filter.mp hmem).2
  · have hrefused {code : Code} (h : openBuffer s.staging i = .inl code) :
        serveOp s (.station i) (.recordPut e) = .answered { state := s, code := code, body := zeros 9 } ∧
          serveOp s (.station i) (.recordDrop serial) = .answered { state := s, code := code, body := zeros 5 } :=
      ⟨congrArg _ (serveRecordPut_refused h e), congrArg _ (serveRecordDrop_refused h serial)⟩
    exact ⟨fun h => hrefused (h ▸ rfl), fun b w h => hrefused (h ▸ rfl),
      fun b mark h howner => hrefused (h ▸ openBuffer_other howner)⟩

end Sys2Proof.Machine
end

section
/-! PROOF. PAGE COMMIT, its conflicts and the write that it begins, and the completion of the write (sections 1.6, 7.5 and 7.6). -/

namespace Sys2Proof.Machine

variable {s : State} {b : Buffer} {w : PageWrite} {mark : Nat} {i : StationId} {es : List Staged} {r : PassRecord}

/-! ## Conflicts -/

theorem recordConflict_unstaged (h : ∀ e ∈ es, e.ent.serial ≠ r.ent.serial) :
    recordConflict es r = if hasProvisional r.usage.used then some .provisional else none := by
  have hnone : es.find? (fun e => e.ent.serial == r.ent.serial) = none :=
    List.find?_eq_none.mpr fun e he => by simpa using h e he
  unfold recordConflict
  rw [hnone]

theorem recordConflict_staged {e : Staged} (hsorted : Staged.sorted es) (he : e ∈ es) (hserial : e.ent.serial = r.ent.serial) :
    recordConflict es r = if e.mark = .replaced then replacedConflict r.usage e.ent else none := by
  have hfind := find?_serial hsorted he
  rw [hserial] at hfind
  unfold recordConflict
  rw [hfind]
  cases hmark : e.mark <;> simp [hmark]

/-- The three conflicts of a REPLACED entry, each only if none before it holds (R131). -/
theorem replacedConflict_iff (u : Usage) (e : Entitlement) :
    (replacedConflict u e = some .days ↔ e.rideDays < u.used.length + u.refundedDays) ∧
      (replacedConflict u e = some .window ↔
        u.used.length + u.refundedDays ≤ e.rideDays ∧
          ∃ d ∈ u.used, d.day < e.firstDay ∨ e.firstDay + e.window - 1 < d.day) ∧
      (replacedConflict u e = some .paid ↔
        u.used.length + u.refundedDays ≤ e.rideDays ∧
          (∀ d ∈ u.used, e.firstDay ≤ d.day ∧ d.day ≤ e.firstDay + e.window - 1) ∧ e.paid < u.refundedTotal) ∧
      replacedConflict u e ≠ some .provisional := by
  have houtside : u.used.any (fun d => decide (d.day < e.firstDay) || decide (e.lastDay < d.day)) = true ↔
      ∃ d ∈ u.used, d.day < e.firstDay ∨ e.firstDay + e.window - 1 < d.day := by
    simp only [List.any_eq_true, Bool.or_eq_true, decide_eq_true_eq]
    exact Iff.rfl
  have hinside : (∀ d ∈ u.used, e.firstDay ≤ d.day ∧ d.day ≤ e.firstDay + e.window - 1) ↔
      ¬ ∃ d ∈ u.used, d.day < e.firstDay ∨ e.firstDay + e.window - 1 < d.day := by
    simp only [not_exists, not_and, not_or, Nat.not_lt]
  rw [hinside, ← houtside]
  unfold replacedConflict
  split_ifs with hdays hwindow hpaid
  · simp [hdays]
  · simp [hdays, hwindow, Nat.not_lt.mp hdays]
  · simp [hdays, hwindow, hpaid, Nat.not_lt.mp hdays]
  · simp [hdays, hwindow, hpaid]

theorem firstConflict_split {before after : List PassRecord} {reason : ConflictReason}
    (hbefore : ∀ q ∈ before, recordConflict es q = none) (h : recordConflict es r = some reason) :
    firstConflict es (before ++ r :: after) = some (r.ent.serial, reason) := by
  induction before with
  | nil => simp [firstConflict, h]
  | cons q rest ih =>
    obtain ⟨hq, hrest⟩ := List.forall_mem_cons.mp hbefore
    rw [List.cons_append, firstConflict, hq]
    exact ih hrest

theorem firstConflict_of_none {rs : List PassRecord} (h : ∀ q ∈ rs, recordConflict es q = none) : firstConflict es rs = none := by
  induction rs with
  | nil => rfl
  | cons q rest ih =>
    obtain ⟨hq, hrest⟩ := List.forall_mem_cons.mp h
    rw [firstConflict, hq]
    exact ih hrest

/-! ## PAGE COMMIT -/

theorem serveCommitPage_refused {code : Code} (h : openBuffer s.staging i = .inl code) :
    serveCommitPage s i = .answered { state := s, code := code, body := zeros 12 } := by
  unfold serveCommitPage
  rw [h]

theorem serveCommitPage_conflict (h : s.staging = .opened b mark) {serial : Nat} {reason : ConflictReason}
    (hconflict : firstConflict b.entries (pageRecords s.store b.page) = some (serial, reason)) :
    serveCommitPage s b.owner =
      .answered { state := s.restage b, code := .conflict, body := conflictBytes serial reason } := by
  unfold serveCommitPage
  rw [h, openBuffer_owner]
  simp only [hconflict]

theorem serveCommitPage_begun (h : s.staging = .opened b mark)
    (hconflict : firstConflict b.entries (pageRecords s.store b.page) = none) :
    serveCommitPage s b.owner = .begun (beginWrite s b) := by
  unfold serveCommitPage
  rw [h, openBuffer_owner]
  simp only [hconflict]

/-- Settles O31: the conflict of each record, the first of them, and the write begun without one. -/
theorem commitConflictsOrBeginsItsWrite : Obligations.CommitConflictsOrBeginsItsWrite := by
  refine ⟨fun es r => ⟨recordConflict_unstaged, fun e he hserial hsorted => ?_⟩,
    fun s b mark h => ⟨fun before r after reason hsplit hbefore hreason => ?_, fun hnone => ?_,
      fun i howner => serveCommitPage_refused (h ▸ openBuffer_other howner)⟩,
    fun s i => ⟨fun h => serveCommitPage_refused (h ▸ rfl), fun b w h => serveCommitPage_refused (h ▸ rfl)⟩⟩
  · rw [recordConflict_staged hsorted he hserial]
    refine ⟨fun hmark => if_neg hmark, fun hmark => ?_⟩
    rw [if_pos hmark]
    exact replacedConflict_iff r.usage e.ent
  · refine serveCommitPage_conflict h ?_
    rw [hsplit]
    exact firstConflict_split hbefore hreason
  · refine (serveCommitPage_begun h (firstConflict_of_none hnone)).trans (congrArg
      (fun image => CommitResult.begun { s with staging := .committing b { image := image, disowned := false } })
      (List.map_congr_left fun e _ => ?_))
    unfold carriedUsage State.record
    cases e.mark <;> cases findRecord s.store e.ent.serial <;> rfl

/-! ## The completion of the write -/

theorem answerCommit_post (s : State) (b : Buffer) (w : PageWrite) (code : Code) (body : List Byte) (d : NoticeDetail) :
    (s.answerCommit b w code body).post d =
      if w.disowned then s.post d else (s.post d).respond (.station b.owner) code body := by
  unfold State.answerCommit
  split_ifs <;> rfl

theorem exec_writeCompletion_success (h : s.staging = .committing b w) :
    exec (.writeCompletion .success) s = .next (completeWrite s b w) := by
  change execWriteCompletion .success s = _
  unfold execWriteCompletion
  rw [h]

theorem exec_writeCompletion_failure (h : s.staging = .committing b w) :
    exec (.writeCompletion .verifyFailure) s = .next (failWrite s b w) := by
  change execWriteCompletion .verifyFailure s = _
  unfold execWriteCompletion
  rw [h]

theorem exec_writeCompletion_idle (h : s.pageBusy = none) (result : WriteResult) : exec (.writeCompletion result) s = .next s := by
  change execWriteCompletion result s = _
  unfold execWriteCompletion
  cases hstaging : s.staging with
  | empty => rfl
  | opened b mark => rfl
  | committing b w => simp [State.pageBusy, hstaging] at h

theorem completeWrite_store (s : State) (b : Buffer) (w : PageWrite) :
    (completeWrite s b w).store = replacePage s.store b.page (w.image.map (withStagedFlag b.entries)) := by
  unfold completeWrite
  dsimp only
  rw [answerCommit_post]
  split_ifs <;> rfl

/-- Settles O32: the page written, the buffer, the engine and the answer, with success and with verify failure. -/
theorem writeCompletionSettlesThePage : Obligations.WriteCompletionSettlesThePage := by
  refine ⟨fun s b w hstaging => ⟨⟨completeWrite s b w, exec_writeCompletion_success hstaging, ?_, fun hlaw => ?_⟩, ?_⟩,
    fun s result hidle => exec_writeCompletion_idle hidle result⟩
  · rw [completeWrite_store]
    exact answerCommit_post ..
  · obtain ⟨⟨hwf, -, hlawful⟩, -⟩ := storeLaw_iff.mp hlaw
    rw [hstaging] at hlawful
    obtain ⟨hb, -, hw⟩ := lawful_committing_iff.mp hlawful
    have hpage := isPage_image hb hw b.entries
    rw [completeWrite_store]
    refine ⟨(pageRecords_replacePage hwf.1 hpage).trans (List.map_congr_left fun q _ => ?_),
      fun page hne => pageRecords_replacePage_of_ne hwf.1 hpage hne⟩
    unfold withStagedFlag
    cases b.entries.find? (fun e => e.ent.serial == q.ent.serial) <;> rfl
  · exact (exec_writeCompletion_failure hstaging).trans (congrArg _ (answerCommit_post ..))

end Sys2Proof.Machine
end

section
/-! PROOF. REFUND QUOTE and REFUND COMMIT: the checks in their order, what a quote reports and what an accepted commit makes (sections
6.3, 6.4 and 6.5). -/

namespace Sys2Proof.Machine

variable {s : State} {serial asked days expected k : Nat} {r : PassRecord} {c : TariffClass} {refusal : Served}

/-! ## The checks that quote and commit share -/

theorem serveOp_refund_refused (h : refundChecks s serial = .inl refusal) (p : Port) (asked days expected : Nat) :
    serveOp s p (.refundQuote serial asked) = .answered refusal ∧
      serveOp s p (.refundCommit serial days expected) = .answered refusal := by
  simp only [serveOp, serveQuote, serveCommit, h, and_self]

theorem refundChecks_unknown (h : s.record serial = none) :
    refundChecks s serial = .inl { state := s, code := .unknownPass, body := beBytes 4 serial ++ zeros 23 } := by
  unfold refundChecks
  rw [h]
  rfl

theorem refundChecks_blocked (hrec : s.record serial = some r) (h : r.ent.blocked = true) :
    refundChecks s serial = .inl { state := s, code := .blocked, body := refundBody r 0 0 Figures.none 0 } := by
  simp only [refundChecks, hrec, h, if_true]

theorem refundChecks_notLocked (hrec : s.record serial = some r) (hblocked : r.ent.blocked = false) (h : s.refund.locked = false) :
    refundChecks s serial = .inl { state := s, code := .notLocked, body := refundBody r 0 0 Figures.none 0 } := by
  simp only [refundChecks, hrec, hblocked, h, if_true, Bool.false_eq_true, if_false]

theorem refundChecks_noTariff (hrec : s.record serial = some r) (hblocked : r.ent.blocked = false) (hlocked : s.refund.locked = true)
    (h : (s.tariffOf r.ent.classNo).present = false) :
    refundChecks s serial = .inl { state := s, code := .noTariff, body := refundBody r 0 0 Figures.none 0 } := by
  simp only [refundChecks, hrec, hblocked, hlocked, h, if_true, Bool.false_eq_true, Bool.true_eq_false, if_false]

theorem refundChecks_nothing (hrec : s.record serial = some r) (hblocked : r.ent.blocked = false) (hlocked : s.refund.locked = true)
    (hpresent : (s.tariffOf r.ent.classNo).present = true) (h : refundableDays (s.tariffOf r.ent.classNo) r s.opDay = 0) :
    refundChecks s serial = .inl { state := s, code := .nothingRefundable, body := refundBody r 0 0 Figures.none 0 } := by
  simp only [refundChecks, hrec, hblocked, hlocked, hpresent, h, if_true, Bool.false_eq_true, Bool.true_eq_false, if_false]

/-! ## The checks of a commit -/

theorem serveQuote_passed (h : refundChecks s serial = .inr (r, c, k)) (asked : Nat) :
    serveQuote s serial asked =
      { state := s
        code := .ok
        body := refundBody r k (if asked = 0 then k else min asked k) (figuresFor c r (if asked = 0 then k else min asked k)) 0 } := by
  simp only [serveQuote, h, quotedDays]

/-- The commit of a request that passed the shared checks (R113, R114). -/
theorem serveCommit_passed (h : refundChecks s serial = .inr (r, c, k)) (p : Port) (days expected : Nat) :
    serveCommit s p serial days expected =
      if 512 ≤ s.refund.journal.length then
        { state := s, code := .journalFull, body := refundBody r k (min days k) (figuresFor c r (min days k)) 0 }
      else if k < days ∨ (figuresFor c r (min days k)).amount ≠ expected then
        { state := s, code := .stale, body := refundBody r k (min days k) (figuresFor c r (min days k)) 0 }
      else if (figuresFor c r (min days k)).amount = 0 then
        { state := s, code := .zeroRefund, body := refundBody r k (min days k) (figuresFor c r (min days k)) 0 }
      else
        { state := makeRefund s p r (min days k) (figuresFor c r (min days k)).amount
          code := .ok
          body :=
            refundBody (r.refund (min days k) (figuresFor c r (min days k)).amount) k (min days k)
              (figuresFor c r (min days k)) s.refund.nextSeq } := by
  simp only [serveCommit, h]
  rfl

/-- Settles O34: the refusals in their order, and the quote that passes them. -/
theorem refundRequestsAreCheckedInOrder : Obligations.RefundRequestsAreCheckedInOrder := by
  intro s i serial asked days expected quote commit both
  have hrefused {code : Code} {body : List Byte}
      (h : refundChecks s serial = .inl { state := s, code := code, body := body }) : both code body :=
    serveOp_refund_refused h (.station i) asked days expected
  refine ⟨fun hnone => hrefused (refundChecks_unknown hnone), ?_⟩
  intro r hrec c k body
  obtain ⟨-, -, rfl⟩ := record_mem hrec
  refine ⟨fun h => hrefused (refundChecks_blocked hrec h), fun hblocked h => hrefused (refundChecks_notLocked hrec hblocked h),
    fun hblocked hlocked h => hrefused (refundChecks_noTariff hrec hblocked hlocked h),
    fun hblocked hlocked hpresent h => hrefused (refundChecks_nothing hrec hblocked hlocked hpresent h),
    fun hblocked hlocked hpresent hk => ?_⟩
  have hpassed := refundChecks_of_passed hrec hblocked hlocked hpresent hk
  have hcommit := serveCommit_passed hpassed (.station i) days expected
  refine ⟨congrArg _ (serveQuote_passed hpassed asked), fun hfull => congrArg _ (hcommit.trans (if_pos hfull)),
    fun hroom hstale => congrArg _ (hcommit.trans ((if_neg (Nat.not_le.mpr hroom)).trans (if_pos hstale))),
    fun hroom hdays hamount hzero => congrArg _ (hcommit.trans ((if_neg (Nat.not_le.mpr hroom)).trans
      ((if_neg ?_).trans (if_pos (hamount.trans hzero)))))⟩
  rintro (hlt | hne)
  · exact absurd hdays (Nat.not_le.mpr hlt)
  · exact hne hamount

/-- What a refund makes: the journal that it counts has one record more than before (R114, R118, R119). -/
theorem makeRefund_eq (s : State) (p : Port) (r : PassRecord) (j amount : Nat) :
    makeRefund s p r j amount =
      { s with
        store := updateRecord s.store r.ent.serial (PassRecord.refund j amount)
        refund :=
          { s.refund with
            journal := s.refund.journal ++ [journalRecord s p r j amount], nextSeq := s.refund.nextSeq + 1 }
        countsInFlight := s.countsInFlight ++ [.refund amount]
        postsInFlight :=
          s.postsInFlight ++ refundPosts s.refund.nextSeq r.ent.serial amount (s.refund.journal.length + 1) } := by
  unfold makeRefund
  dsimp only
  rw [List.length_append]
  rfl

/-- Settles O35: the record, the journal, the count event and the posts of an accepted commit. -/
theorem commitMakesTheRefund : Obligations.CommitMakesTheRefund := by
  intro s i serial days expected r c k f n after hrec hblocked hlocked hpresent hone hdays hroom hamount hpositive
  obtain ⟨-, -, rfl⟩ := record_mem hrec
  have hpassed := refundChecks_of_passed hrec hblocked hlocked hpresent (hone.trans hdays)
  have hmin : min days k = days := Nat.min_eq_left hdays
  refine congrArg CommitResult.answered ((serveCommit_passed hpassed (.station i) days expected).trans ?_)
  have hsound : ¬ (k < days ∨ f.amount ≠ expected) := fun h => h.elim (Nat.not_lt.mpr hdays) fun hne => hne hamount
  rw [if_neg (Nat.not_le.mpr hroom), hmin, if_neg hsound, hamount, if_neg hpositive.ne',
    makeRefund_eq]
  rfl

end Sys2Proof.Machine
end

section
/-! PROOF. TARIFF PUT and TARIFF LOCK, and the lock and the table over any command: they change together only with a change of the
stored current day (sections 6.1, 6.2 and 8.6). -/

namespace Sys2Proof.Machine

variable {c : Instr} {s₀ s t u : State} {p : Port} {k : Kind} {tag : Byte}

/-! ## The requests -/

/-- A class is stored clamped to its ranges (R101). -/
theorem clamped_eq (cls : TariffClass) :
    cls.clamped =
      { cls with
        feePermille := if 500 < cls.feePermille then 500 else cls.feePermille
        step := if cls.step = 0 then 1 else if 10000 < cls.step then 10000 else cls.step
        capPermille := if 1000 < cls.capPermille then 1000 else cls.capPermille } := by
  have hpermille : min 500 cls.feePermille = if 500 < cls.feePermille then 500 else cls.feePermille := by split_ifs <;> omega
  have hstep : min 10000 (max 1 cls.step) = if cls.step = 0 then 1 else if 10000 < cls.step then 10000 else cls.step := by
    split_ifs <;> omega
  have hcap : min 1000 cls.capPermille = if 1000 < cls.capPermille then 1000 else cls.capPermille := by split_ifs <;> omega
  rw [TariffClass.clamped, hpermille, hstep, hcap]

theorem serveTariffPut_stored (h : s.refund.locked = false) (n : Fin 64) (cls : TariffClass) :
    serveTariffPut s n cls =
      { state := { s with refund := { s.refund with tariff := s.refund.tariff.set n.val cls.clamped } }
        code := .ok
        body := tariffBytes cls.clamped } := by
  simp only [serveTariffPut, h, Bool.false_eq_true, if_false]

theorem serveTariffPut_locked (h : s.refund.locked = true) (n : Fin 64) (cls : TariffClass) :
    serveTariffPut s n cls = { state := s, code := .locked, body := zeros 52 } := by
  simp only [serveTariffPut, h, if_true]

/-! ## Commands without a day change -/

/-- The commands that can change the stored current day (R104, R144, R146, R151, R174). -/
def SettlesDay (c : Instr) : Prop :=
  (∃ p tag body, c = .timeReference p tag body) ∨ (∃ p tag body, c = .configure p tag body) ∨ c = .dayChange ∨
    c = .engineTakeWork ∨ ∃ p tag req, c = .portReset p tag req

/-- The stored current day stands, and so do a set lock and the table under it. -/
structure TariffStands (s t : State) : Prop where
  day : t.timebase.currentDay = s.timebase.currentDay
  locked : s.refund.locked = true → t.refund.locked = true ∧ t.refund.tariff = s.refund.tariff

theorem TariffStands.of_same (hday : t.timebase.currentDay = s.timebase.currentDay) (hrefund : t.refund = s.refund) :
    TariffStands s t :=
  ⟨hday, fun h => ⟨hrefund ▸ h, hrefund ▸ rfl⟩⟩

theorem TariffStands.trans (hst : TariffStands s t) (htu : TariffStands t u) : TariffStands s u :=
  ⟨htu.day.trans hst.day, fun h =>
    have ⟨hlocked, htariff⟩ := hst.locked h
    have ⟨hlocked', htariff'⟩ := htu.locked hlocked
    ⟨hlocked', htariff'.trans htariff⟩⟩

theorem Effect.tariffStands (h : Effect c s₀ s t) (hc : ¬ SettlesDay c) : TariffStands s t := by
  cases h
  case flag => rw [serveFlag_frame]; exact .of_same rfl rfl
  case tariffPut hunlocked => exact ⟨rfl, fun hlocked => by simp [hlocked] at hunlocked⟩
  case tariffLock => exact ⟨rfl, fun _ => ⟨rfl, rfl⟩⟩
  case refunded => rw [makeRefund_eq]; exact ⟨rfl, fun h => ⟨h, rfl⟩⟩
  case journalReleased => exact ⟨rfl, fun h => ⟨h, rfl⟩⟩
  case reference body tRef force hcmd hbody =>
    obtain ⟨p, tag, hcmd⟩ := hcmd
    exact absurd (.inl ⟨p, tag, body, hcmd⟩) hc
  case configured body items hbody hlanes hcmd =>
    obtain ⟨p, tag, hcmd⟩ := hcmd
    exact absurd (.inr (.inl ⟨p, tag, body, hcmd⟩)) hc
  case settled hcmd => exact absurd (.inr (.inr hcmd)) hc
  case slewed =>
    refine .of_same ?_ rfl
    unfold Timebase.slew
    dsimp only
    split <;> rfl
  case boundary => rw [closeAtBoundary, closeInterval_frame]; exact .of_same rfl rfl
  case taskServed => rw [serveTask_frame]; exact .of_same rfl rfl
  case deferredTaskServed => rw [serveTask_frame]; exact .of_same rfl rfl
  all_goals exact .of_same rfl rfl

theorem Move.tariffStands (h : Move c s₀ s t) (hc : ¬ SettlesDay c) : TariffStands s t := by
  cases h
  case effect h => exact h.tariffStands hc
  case port p ps => cases p <;> exact .of_same rfl rfl
  case reset => rw [deviceReset_frame]; exact .of_same rfl rfl
  all_goals exact .of_same rfl rfl

theorem Moves.tariffStands (h : Moves c s₀ s t) (hc : ¬ SettlesDay c) : TariffStands s t :=
  h.keeps (P := TariffStands s) (fun _ _ hu hm => hu.trans (hm.tariffStands hc)) (.of_same rfl rfl)

/-! ## Commands with a day change -/

/-- The table stands, and a set lock clears only with a change of the stored current day. -/
structure TariffSettles (s t : State) : Prop where
  tariff : t.refund.tariff = s.refund.tariff
  lock : s.refund.locked = true → t.refund.locked = false → t.timebase.currentDay ≠ s.timebase.currentDay

theorem TariffSettles.of_same (hrefund : t.refund = s.refund) : TariffSettles s t :=
  ⟨hrefund ▸ rfl, fun h hclear => by simp [hrefund, h] at hclear⟩

/-- A day change clears the lock (R104). -/
theorem settleDay_tariffSettles (hrefund : u.refund = s.refund) (hday : u.timebase.currentDay = s.timebase.currentDay) :
    TariffSettles s (settleDay u) := by
  cases hdue : u.dayDue with
  | false =>
    rw [settleDay_of_not_due (by simp [hdue])]
    exact .of_same hrefund
  | true =>
    rw [settleDay_of_due hdue]
    exact ⟨hrefund ▸ rfl, fun _ _ => hday ▸ (dayDue_iff.mp hdue).2⟩

theorem stepReference_tariffSettles (tRef : Nat) (hrefund : u.refund = s.refund)
    (hday : u.timebase.currentDay = s.timebase.currentDay) : TariffSettles s (stepReference u tRef) := by
  have hsettled : TariffSettles s
      (settleDay (closeStepped { u with timebase := (u.timebase.setTime tRef).accept } u.timebase.time tRef)) :=
    settleDay_tariffSettles (by simpa using hrefund) (by rw [closeStepped_timebase]; exact hday)
  exact ⟨hsettled.tariff, hsettled.lock⟩

theorem applyReference_tariffSettles (tRef : Nat) (e : Int) (cse : ReferenceCase) (hrefund : u.refund = s.refund)
    (hday : u.timebase.currentDay = s.timebase.currentDay) : TariffSettles s (applyReference u tRef e cse) := by
  cases cse with
  | set =>
    refine settleDay_tariffSettles (by simpa using hrefund) ?_
    rw [closeStepped_timebase, ← hday]
    unfold Timebase.accept
    simp only [State.post, State.postAll]
    split_ifs <;> rfl
  | slew =>
    simp only [applyReference, slewReference]
    split <;> exact .of_same hrefund
  | step => exact stepReference_tariffSettles tRef hrefund hday
  | forced => exact stepReference_tariffSettles tRef hrefund hday
  | refused => exact .of_same hrefund

theorem storeProfile_tariffSettles (f : Profile) (trim : Int) (hrefund : u.refund = s.refund)
    (hday : u.timebase.currentDay = s.timebase.currentDay) : TariffSettles s (storeProfile u f trim) := by
  have hcut : (closeCut (withProfile u f trim)).refund = s.refund := (closeInterval_refund ..).trans hrefund
  obtain ⟨-, -, h⟩ | ⟨-, -, h⟩ | ⟨-, h⟩ := storeProfile_cases u f trim <;> rw [h]
  · exact .of_same hrefund
  · exact .of_same hcut
  · exact settleDay_tariffSettles hcut (by rw [closeCut, closeInterval_timebase]; exact hday)

theorem serveReference_tariffSettles (body : List Byte) (hrefund : u.refund = s.refund)
    (hday : u.timebase.currentDay = s.timebase.currentDay) : TariffSettles s (serveReference u body).state := by
  unfold serveReference
  split
  · exact .of_same hrefund
  · exact applyReference_tariffSettles _ _ _ hrefund hday

theorem serveConfigure_tariffSettles (body : List Byte) (hrefund : u.refund = s.refund)
    (hday : u.timebase.currentDay = s.timebase.currentDay) : TariffSettles s (serveConfigure u body).state := by
  unfold serveConfigure
  split
  · exact .of_same hrefund
  · split
    · exact .of_same hrefund
    · exact storeProfile_tariffSettles _ _ hrefund hday

/-- What a port makes of a request touches the tariff by the request's service alone. -/
theorem requestUnit_tariffSettles {serve : State → Served}
    (h : ∀ u, u.refund = s.refund → u.timebase.currentDay = s.timebase.currentDay → TariffSettles s (serve u).state) :
    TariffSettles s (s.requestUnit p k tag serve) := by
  unfold State.requestUnit State.request State.receive
  dsimp only
  split
  · exact .of_same rfl
  · split
    · exact .of_same (setPort_refund ..)
    · unfold State.judge
      split
      · exact .of_same (by simp)
      · split
        · exact .of_same (by simp)
        · obtain ⟨htariff, hlock⟩ := h (s.setPort p ((s.port p).take (.reserved k.code tag))) (by simp) (by simp)
          exact ⟨(congrArg RefundUnit.tariff (respond_refund ..)).trans htariff, by simpa [Served.answerAt] using hlock⟩

/-! ## The engine's work after a day change -/

/-- What the lock and the table may come to over one command. -/
structure TariffKept (s t : State) : Prop where
  tariff : s.dayDue = false → t.refund.tariff = s.refund.tariff
  lock : t.refund.locked = false → t.timebase.currentDay ≠ s.timebase.currentDay

theorem TariffSettles.kept (h : TariffSettles s t) (hlocked : s.refund.locked = true) : TariffKept s t :=
  ⟨fun _ => h.tariff, h.lock hlocked⟩

theorem TariffStands.kept (h : TariffStands s t) (hlocked : s.refund.locked = true) : TariffKept s t := by
  obtain ⟨hset, htariff⟩ := h.locked hlocked
  exact ⟨fun _ => htariff, fun hclear => by simp [hset] at hclear⟩

theorem TariffStands.kept_settled (h : TariffStands (settleDay s) t) (hlocked : s.refund.locked = true) : TariffKept s t := by
  cases hdue : s.dayDue with
  | false =>
    rw [settleDay_of_not_due (by simp [hdue])] at h
    exact h.kept hlocked
  | true =>
    refine ⟨fun hnot => by simp [hdue] at hnot, fun _ => ?_⟩
    rw [h.day, settleDay_of_due hdue]
    exact (dayDue_iff.mp hdue).2

/-- A service is of no command that changes the day, whatever command took it. -/
theorem not_settlesDay_runningOfStationTime : ¬ SettlesDay .runningOfStationTime := by simp [SettlesDay]

theorem takeWork_settleDay_tariffStands (s : State) : TariffStands (settleDay s) (takeWork (settleDay s)) :=
  (takeWork_moves (c := .runningOfStationTime) rfl rfl rfl rfl).tariffStands not_settlesDay_runningOfStationTime

theorem portReset_tariffStands (s : State) (p : Port) (tag : Byte) : TariffStands s (portReset s p tag) :=
  (portReset_moves (c := .runningOfStationTime) (s₀ := s) p tag).tariffStands not_settlesDay_runningOfStationTime

theorem portResetInService_tariffKept (hlocked : s.refund.locked = true) : TariffKept s (portResetInService s p tag) := by
  unfold portResetInService
  split
  · exact ((portResetInService_served_moves (c := .runningOfStationTime) ‹_›).tariffStands
      not_settlesDay_runningOfStationTime).kept_settled hlocked
  · exact (portReset_tariffStands s p tag).kept hlocked

/-- Over any command the table changes only where a day change is due, and the lock clears only with the day (R103, R104). -/
theorem exec_tariffKept (h : exec c s = .next t) (hlocked : s.refund.locked = true) : TariffKept s t := by
  by_cases hc : SettlesDay c
  · obtain ⟨p, tag, body, rfl⟩ | ⟨p, tag, body, rfl⟩ | rfl | rfl | ⟨p, tag, req, rfl⟩ := hc <;> obtain rfl := Host.Outcome.next.inj h
    · exact (requestUnit_tariffSettles fun _ => serveReference_tariffSettles body).kept hlocked
    · exact (requestUnit_tariffSettles fun _ => serveConfigure_tariffSettles body).kept hlocked
    · exact (settleDay_tariffSettles rfl rfl).kept hlocked
    · exact (takeWork_settleDay_tariffStands s).kept_settled hlocked
    · cases req.order with
      | withdrawalFirst => exact (portReset_tariffStands s p tag).kept hlocked
      | serviceFirst => exact portResetInService_tariffKept hlocked
  · exact ((exec_moves c h).tariffStands hc).kept hlocked

/-- Settles O36: the two requests, the refusal of a TARIFF LOCK with a body, and the table and the lock over any command. -/
theorem tariffIsWrittenUntilLocked : Obligations.TariffIsWrittenUntilLocked := by
  refine ⟨fun s i => ⟨fun n cls => ?_, rfl⟩, fun s r hday hnext hfirst hchoose hkind hbody => ?_, fun c s t h hlocked => ?_⟩
  · rw [← clamped_eq cls]
    exact ⟨fun h => congrArg _ (serveTariffPut_stored h n cls), fun h => congrArg _ (serveTariffPut_locked h n cls)⟩
  · have hform : engineOp r.kind r.body = none := by
      rw [hkind]
      exact if_neg hbody
    rw [exec_engineTakeWork hday, takeWork_of_choose hnext hfirst hchoose, takeRequest_formless hform, refuseForm, hkind]
    rfl
  · obtain ⟨htariff, hlock⟩ := exec_tariffKept h hlocked
    exact ⟨htariff, hlock⟩

end Sys2Proof.Machine
end
